-- ==== Sys2Proof/Word.lean ====
section
/-! DEFINITION. The widths of the values the link core moves: a byte (R12), a set of message types (R20),
the payload lanes of a parallel port (R40) and the 16-bit checksum (R87). -/

namespace Sys2Proof

/-- A byte, an unsigned 8-bit value (R12, R14). -/
abbrev Byte := BitVec 8

/-- A set of message types: bit `t` is 1 exactly when type `t` is in the set (R20). -/
abbrev TypeSet := BitVec 256

/-- The 253 payload lanes of a parallel port: byte `i` in bits `8*i+7` down to `8*i` (R40, R62). -/
abbrev Lanes := BitVec 2024

/-- A 16-bit checksum value (R87). -/
abbrev Checksum := BitVec 16

end Sys2Proof
end

