-- ==== Sys2Proof/Config.lean ====
section
/-! DEFINITION. The parameters of an instance of the link core (R7 to R11). They are an argument of the model:
State carries them in its field `cfg`, which no operation writes, so a statement about every state holds for
every value of them. -/

namespace Sys2Proof

/-- CHECKSUM_ALG (R10): which 16-bit checksum the checksum unit computes. -/
inductive ChecksumAlg where
  | fletcher16
  | crc16Ccitt
deriving DecidableEq, Repr

/-- CLK_HZ less one (R7): the clock frequency is an OPEN parameter for which the spec gives no value. DESIGN
CHOICE, log 4 (safe): an opaque constant, nothing can be proved of its value. -/
opaque clkHzLessOne : Nat

/-- CLK_HZ (R7), in hertz; positive, since T_REPLY is. -/
def clkHz : Nat := clkHzLessOne + 1

/-- The parameters of an instance, fixed for its life (R7 to R11). -/
structure Params where
  /-- T_REPLY, the arbiter's reply timeout in clock cycles (R7). -/
  tReply : Nat
  /-- T_HANDOFF, the decoder's bounded wait at the hand-off in clock cycles (R8). -/
  tHandoff : Nat
  /-- TXQ_DEPTH, the number of entries the transmit queue holds (R9). -/
  txqDepth : Nat
  /-- CHECKSUM_ALG (R10). -/
  checksumAlg : ChecksumAlg
  /-- ACK_REQUIRED (R11), a total function from a type to a Boolean, as its table: bit `t` is its value at `t`. -/
  ackRequired : TypeSet
deriving DecidableEq, Repr

/-- The ranges the spec gives the parameters: T_REPLY and T_HANDOFF positive (R7, R8), TXQ_DEPTH at least 3 (R9)
and at most 255 (R37). -/
def Params.wf (p : Params) : Bool :=
  decide (1 ≤ p.tReply) && decide (1 ≤ p.tHandoff) && decide (3 ≤ p.txqDepth) && decide (p.txqDepth ≤ 255)

/-- The defaults: T_REPLY = T_HANDOFF = 3 * CLK_HZ (R7, R8), TXQ_DEPTH = 16 (R9), FLETCHER16 (R10) and
ACK_REQUIRED(t) = (t[7] == 1), so exactly the types 128 to 255 (R11). -/
def Params.default : Params where
  tReply := 3 * clkHz
  tHandoff := 3 * clkHz
  txqDepth := 16
  checksumAlg := .fletcher16
  ackRequired := (BitVec.allOnes 256) <<< 128

end Sys2Proof
end

