-- ==== Sys2Proof/Syntax.lean ====
section
/-! DEFINITION. The operations of the link core: one constructor of `Instr` per row of opcode_table.json (R94, R95),
with the operands its rule names, and the message records and agent states that operands and encodings speak of. -/

namespace Sys2Proof

/-- An outgoing message `n, p, e` (R20): payload length, payload, expected reply set. -/
structure TxMsg where
  n : Byte
  p : List Byte
  e : TypeSet
deriving DecidableEq, Repr

/-- A received message `n, p, ok` (R20): payload length, payload, checksum-valid flag. -/
structure RxMsg where
  n : Byte
  p : List Byte
  ok : Bool
deriving DecidableEq, Repr

/-- The arbiter's states (R22); `.tx` is TX, `.wait` is WAIT. -/
inductive ArbState where
  | off | select | tx | wait | classify | dispatch | dead | stopped
deriving DecidableEq, Repr

/-- The decoder's states (R24). -/
inductive DecState where
  | hunt | len | body | offer
deriving DecidableEq, Repr

/-- The operation formats of R95. -/
inductive Format where
  | rx | dec | tx | arb | cmd | qi | ctl | fn
deriving DecidableEq, Repr

/-- The operations. An operand is written where the operation's rule takes one from a port or from its caller; what
an operation reads from registers is no operand. -/
inductive Instr where
  -- decoder (40_decoder.md)
  | decDisabled
  | decHandoff
  | decDrop
  | decOfferHold
  | decAbort
  | decIdle
  | decSync
  | decHuntSkip (b : Byte)
  | decLenOk (b : Byte)
  | decLenBad (b : Byte)
  | decUnstuff (b : Byte)
  | decEsc
  | decData (b : Byte)
  | decTrailer (b : Byte)
  | decComplete (b : Byte)
  -- checksum unit (41_checksum.md) and encoder (42_encoder.md): functions
  | csumCompute (p : List Byte)
  | csumCheck (p : List Byte) (lo hi : Byte)
  | csumGen (p : List Byte)
  | encFrame (m : TxMsg)
  | encStuff (b : Byte)
  -- control (45_control.md)
  | ctlHalted
  | ctlStop
  | ctlStart
  | ctlIdle
  -- arbiter (43_arbiter.md) and transmitter (42_encoder.md)
  | arbSelectSkip
  | arbSelectSend
  | arbSelectEmpty
  | txError
  | txLast
  | txByte
  | txStall
  | arbWaitRecv
  | arbWaitTimeout
  | arbWaitTick
  | arbClsUnsolicited
  | arbClsIdle
  | arbClsRetry
  | arbClsUnexpected
  | arbClsMatch
  | arbDispatchDone
  | arbDispatchHold
  -- transmit queue (44_txqueue.md)
  | qCmdBad (head : Bool) (len : Byte) (payload : Lanes) (expect : TypeSet)
  | qSend (len : Byte) (payload : Lanes) (expect : TypeSet)
  | qSendPriority (len : Byte) (payload : Lanes) (expect : TypeSet)
  | qPop
  | qPushHead (m : TxMsg)
  | qPushOvf (m : TxMsg)
deriving DecidableEq, Repr

/-- The "format" column of opcode_table.json. -/
def Instr.format : Instr → Format
  | .decDisabled | .decHandoff | .decDrop | .decOfferHold | .decAbort | .decIdle => .dec
  | .decSync | .decHuntSkip _ | .decLenOk _ | .decLenBad _ | .decUnstuff _ | .decEsc | .decData _
  | .decTrailer _ | .decComplete _ => .rx
  | .csumCompute _ | .csumCheck _ _ _ | .csumGen _ | .encFrame _ | .encStuff _ => .fn
  | .ctlHalted | .ctlStop | .ctlStart | .ctlIdle => .ctl
  | .txError | .txLast | .txByte | .txStall => .tx
  | .arbSelectSkip | .arbSelectSend | .arbSelectEmpty | .arbWaitRecv | .arbWaitTimeout | .arbWaitTick
  | .arbClsUnsolicited | .arbClsIdle | .arbClsRetry | .arbClsUnexpected | .arbClsMatch | .arbDispatchDone
  | .arbDispatchHold => .arb
  | .qCmdBad _ _ _ _ | .qSend _ _ _ | .qSendPriority _ _ _ => .cmd
  | .qPop | .qPushHead _ | .qPushOvf _ => .qi

end Sys2Proof
end

