-- ==== Sys2Proof/WellFormed.lean ====
section
/-! DEFINITION. Which operands an operation can have: the part of its selecting condition (R94) that speaks of the
operand alone, and the ranges of the message records (R20). -/

namespace Sys2Proof

/-- A payload has 1 to 253 bytes (R13, R80). -/
def payloadOk (p : List Byte) : Bool := decide (1 ≤ p.length) && decide (p.length ≤ 253)

/-- A TxMsg as R20 has it: `n` in 1..253 and `n` payload bytes. -/
def TxMsg.wf (m : TxMsg) : Bool := payloadOk m.p && decide (m.n.toNat = m.p.length)

/-- An RxMsg as R20 has it: `n` in 1..253 and `n` payload bytes. -/
def RxMsg.wf (m : RxMsg) : Bool := payloadOk m.p && decide (m.n.toNat = m.p.length)

/-- A command length that can be framed, 1..253 (R91). -/
def commandLengthOk (len : Byte) : Bool := decide (1 ≤ len.toNat) && decide (len.toNat ≤ 253)

/-- The operands an operation's encoding admits. -/
def Instr.wellFormed : Instr → Bool
  | .decHuntSkip b => decide (b ≠ 0x7E#8)                                   -- R113
  | .decLenOk b => decide (3 ≤ b.toNat)                                     -- R115
  | .decLenBad b => decide (b.toNat < 3)                                    -- R116
  | .decData b => decide (b ≠ 0x7D#8)                                       -- R117
  | .csumCompute p => payloadOk p                                           -- R140
  | .csumCheck p _ _ => payloadOk p                                         -- R141
  | .csumGen p => payloadOk p                                               -- R145
  | .encFrame m => m.wf                                                     -- R160
  | .qCmdBad _ len _ _ => !commandLengthOk len                              -- R223
  | .qSend len _ _ => commandLengthOk len                                   -- R221
  | .qSendPriority len _ _ => commandLengthOk len                           -- R222
  | .qPushHead m => m.wf                                                    -- R225
  | .qPushOvf m => m.wf                                                     -- R226
  | .decDisabled | .decHandoff | .decDrop | .decOfferHold | .decAbort | .decIdle | .decSync
  | .decUnstuff _ | .decEsc | .decTrailer _ | .decComplete _ | .encStuff _
  | .ctlHalted | .ctlStop | .ctlStart | .ctlIdle
  | .arbSelectSkip | .arbSelectSend | .arbSelectEmpty
  | .txError | .txLast | .txByte | .txStall
  | .arbWaitRecv | .arbWaitTimeout | .arbWaitTick
  | .arbClsUnsolicited | .arbClsIdle | .arbClsRetry | .arbClsUnexpected | .arbClsMatch
  | .arbDispatchDone | .arbDispatchHold | .qPop => true

end Sys2Proof
end

