-- ==== Sys2Proof/Decode.lean ====
section
/-! DEFINITION. The operation map (R94): which operation each agent performs in a cycle, decoded from the pattern of
state and inputs that is the operation's encoding (30_encoding.md, opening). That pattern is an *operation word*
(`OpWord`); `decode` reads it, `encode` writes a word that selects a given operation (log 7). -/

namespace Sys2Proof

/-- START (R12). -/
def startByte : Byte := 0x7E

/-- ESC (R12). -/
def escByte : Byte := 0x7D

/-- STUFF_BIT (R12). -/
def stuffBit : Byte := 0x20

/-- ACK_TYPE (R12). -/
def ackType : Byte := 0x1D

/-- `running` (R23): the arbiter is in SELECT, TX, WAIT, CLASSIFY or DISPATCH. -/
def ArbState.running : ArbState → Bool
  | .select | .tx | .wait | .classify | .dispatch => true
  | .off | .dead | .stopped => false

/-- `arb_state in (DEAD, STOPPED)`, the absorbing states (R242). -/
def ArbState.halted : ArbState → Bool
  | .dead | .stopped => true
  | .off | .select | .tx | .wait | .classify | .dispatch => false

/-- What the decoder table of R94 reads in a cycle. -/
structure DecoderKey where
  arbState : ArbState
  ctrlStop : Bool
  txError : Bool
  decState : DecState
  /-- `dec_timer = T_HANDOFF - 1` -/
  handoffLast : Bool
  rxError : Bool
  rxValid : Bool
  /-- `rx_data` -/
  b : Byte
  decEsc : Bool
  decLen : Byte
  decIdx : Byte
deriving DecidableEq, Repr

/-- What the arbiter table of R94 reads in a cycle. -/
structure ArbiterKey where
  arbState : ArbState
  ctrlStop : Bool
  ctrlStart : Bool
  arbSkip : Bool
  /-- `q_count` at the start of the cycle -/
  qCount : Nat
  txError : Bool
  txReady : Bool
  /-- `tx_pos = len(ENCODE(cur)) - 1` -/
  txAtLast : Bool
  decState : DecState
  /-- `arb_timer = T_REPLY - 1` -/
  replyLast : Bool
  /-- `arb_expect` is the empty set -/
  expectEmpty : Bool
  rxPresent : Bool
  /-- `arb_expect[rx_p[0]] = 1` -/
  expectHit : Bool
  msgReady : Bool
deriving DecidableEq, Repr

/-- What the host table of R94 reads in a cycle: the command port. -/
structure CommandKey where
  cmdValid : Bool
  cmdReady : Bool
  cmdHead : Bool
  cmdLen : Byte
  cmdPayload : Lanes
  cmdExpect : TypeSet
deriving DecidableEq, Repr

/-- How an arbiter operation calls the queue (R94, last paragraph): ARB.SELECT_SEND pops a queue of `count` entries;
a CLASSIFY operation pushes `m` on a queue that holds `count` of `depth` entries after the host operation. -/
inductive QueueCall where
  | pop (count : Nat)
  | push (m : TxMsg) (count depth : Nat)
deriving DecidableEq, Repr

/-- A call of a function of the checksum unit or the encoder (R95, format FN). -/
inductive FnCall where
  | checksum (p : List Byte)
  | check (p : List Byte) (lo hi : Byte)
  | trailer (p : List Byte)
  | frame (m : TxMsg)
  | stuff (b : Byte)
deriving DecidableEq, Repr

/-- An operation word: the pattern that selects an operation. -/
inductive OpWord where
  | decoder (k : DecoderKey)
  | arbiter (k : ArbiterKey)
  | command (k : CommandKey)
  | queue (c : QueueCall)
  | call (f : FnCall)
deriving DecidableEq, Repr

/-- Why a word selects no operation. -/
inductive DecodeError where
  /-- `cmd_valid = 0 or cmd_ready = 0`: no transfer, the host table's first row (R220). -/
  | noTransfer
  /-- Q.POP is called only when `q_count > 0` (R224). -/
  | emptyQueue
  /-- The operand is no TxMsg of R20. -/
  | badMessage
  /-- The operand is no payload of 1 to 253 bytes (R140, R141, R145). -/
  | badPayload
deriving DecidableEq, Repr

/-- What a word decodes to. -/
inductive Decoded where
  | op (i : Instr)
  | rejected (why : DecodeError)
deriving DecidableEq, Repr

/-- `kill` (R94): the arbiter leaves the running states in this cycle. -/
def DecoderKey.kill (k : DecoderKey) : Bool :=
  (k.ctrlStop && !k.arbState.halted) || (decide (k.arbState = .tx) && k.txError)

/-- `rx_ready` (R41). -/
def rxReadyOf (a : ArbState) (d : DecState) : Bool :=
  a.running && (decide (d = .hunt) || decide (d = .len) || decide (d = .body))

/-- `rxhs` (R94): a received byte is consumed in this cycle. -/
def DecoderKey.rxhs (k : DecoderKey) : Bool := k.rxValid && rxReadyOf k.arbState k.decState

/-- The decoder table of R94, first matching row first. `i + 2 < L` is `i < L - 2` on the spec's integers. -/
def selectDecoder (k : DecoderKey) : Instr :=
  if k.arbState.running = false ∨ k.kill = true then .decDisabled
  else if k.decState = .offer ∧ k.arbState = .wait then .decHandoff
  else if k.decState = .offer ∧ k.handoffLast = true then .decDrop
  else if k.decState = .offer then .decOfferHold
  else if k.rxError = true ∧ (k.decState = .len ∨ k.decState = .body) then .decAbort
  else if k.rxError = true ∨ k.rxhs = false then .decIdle
  else if k.decState = .hunt ∧ k.b = startByte then .decSync
  else if k.decState = .hunt then .decHuntSkip k.b
  else if k.decState = .len ∧ 3 ≤ k.b.toNat then .decLenOk k.b
  else if k.decState = .len then .decLenBad k.b
  else if k.decEsc = true then .decUnstuff k.b
  else if k.decIdx.toNat + 2 < k.decLen.toNat ∧ k.b = escByte then .decEsc
  else if k.decIdx.toNat + 2 < k.decLen.toNat then .decData k.b
  else if k.decIdx.toNat + 2 = k.decLen.toNat then .decTrailer k.b
  else .decComplete k.b

/-- The arbiter table of R94, first matching row first. -/
def selectArbiter (k : ArbiterKey) : Instr :=
  if k.arbState.halted = true then .ctlHalted
  else if k.ctrlStop = true then .ctlStop
  else if k.arbState = .off ∧ k.ctrlStart = true then .ctlStart
  else if k.arbState = .off then .ctlIdle
  else if k.arbState = .select ∧ k.arbSkip = true then .arbSelectSkip
  else if k.arbState = .select ∧ 0 < k.qCount then .arbSelectSend
  else if k.arbState = .select then .arbSelectEmpty
  else if k.arbState = .tx ∧ k.txError = true then .txError
  else if k.arbState = .tx ∧ k.txReady = true ∧ k.txAtLast = true then .txLast
  else if k.arbState = .tx ∧ k.txReady = true then .txByte
  else if k.arbState = .tx then .txStall
  else if k.arbState = .wait ∧ k.decState = .offer then .arbWaitRecv
  else if k.arbState = .wait ∧ k.replyLast = true then .arbWaitTimeout
  else if k.arbState = .wait then .arbWaitTick
  else if k.arbState = .classify ∧ k.expectEmpty = true ∧ k.rxPresent = true then .arbClsUnsolicited
  else if k.arbState = .classify ∧ k.expectEmpty = true then .arbClsIdle
  else if k.arbState = .classify ∧ k.rxPresent = false then .arbClsRetry
  else if k.arbState = .classify ∧ k.expectHit = false then .arbClsUnexpected
  else if k.arbState = .classify then .arbClsMatch
  else if k.msgReady = true then .arbDispatchDone
  else .arbDispatchHold

/-- The host table of R94, first matching row first; none where no command is transferred. -/
def selectCommand (k : CommandKey) : Option Instr :=
  if k.cmdValid = false ∨ k.cmdReady = false then none
  else if k.cmdLen = 0 ∨ 253 < k.cmdLen.toNat then some (.qCmdBad k.cmdHead k.cmdLen k.cmdPayload k.cmdExpect)
  else if k.cmdHead = false then some (.qSend k.cmdLen k.cmdPayload k.cmdExpect)
  else some (.qSendPriority k.cmdLen k.cmdPayload k.cmdExpect)

/-- The internal queue operation a call selects (R94, R224 to R226). -/
def selectQueue : QueueCall → Decoded
  | .pop count => if 0 < count then .op .qPop else .rejected .emptyQueue
  | .push m count depth =>
    if m.wf = false then .rejected .badMessage
    else if count < depth then .op (.qPushHead m)
    else .op (.qPushOvf m)

/-- The function a call names (R95). -/
def selectFn : FnCall → Decoded
  | .checksum p => if payloadOk p then .op (.csumCompute p) else .rejected .badPayload
  | .check p lo hi => if payloadOk p then .op (.csumCheck p lo hi) else .rejected .badPayload
  | .trailer p => if payloadOk p then .op (.csumGen p) else .rejected .badPayload
  | .frame m => if m.wf then .op (.encFrame m) else .rejected .badMessage
  | .stuff b => .op (.encStuff b)

/-- Decoding an operation word: total, a word that selects no operation is rejected by name. -/
def decode : OpWord → Decoded
  | .decoder k => .op (selectDecoder k)
  | .arbiter k => .op (selectArbiter k)
  | .command k =>
    match selectCommand k with
    | some i => .op i
    | none => .rejected .noTransfer
  | .queue c => selectQueue c
  | .call f => selectFn f

/-- A decoder key with the link running (arbiter in DISPATCH), no stop, no error, no byte, the decoder in HUNT. -/
def quietDecoderKey : DecoderKey where
  arbState := .dispatch
  ctrlStop := false
  txError := false
  decState := .hunt
  handoffLast := false
  rxError := false
  rxValid := false
  b := 0
  decEsc := false
  decLen := 4
  decIdx := 0

/-- A decoder key in which the byte `b` is received in decoder state `d`. -/
def receiveKey (d : DecState) (b : Byte) : DecoderKey :=
  { quietDecoderKey with decState := d, rxValid := true, b := b }

/-- An arbiter key in state `a` with every condition of the table that is not a state false. -/
def quietArbiterKey (a : ArbState) : ArbiterKey where
  arbState := a
  ctrlStop := false
  ctrlStart := false
  arbSkip := false
  qCount := 0
  txError := false
  txReady := false
  txAtLast := false
  decState := .hunt
  replyLast := false
  expectEmpty := false
  rxPresent := false
  expectHit := false
  msgReady := false

/-- A command transfer (R91). -/
def commandKey (head : Bool) (len : Byte) (payload : Lanes) (expect : TypeSet) : CommandKey where
  cmdValid := true
  cmdReady := true
  cmdHead := head
  cmdLen := len
  cmdPayload := payload
  cmdExpect := expect

/-- The encoder: a word that selects the operation, written from its row's condition in R94. -/
def encode : Instr → OpWord
  | .decDisabled => .decoder { quietDecoderKey with arbState := .off }
  | .decHandoff => .decoder { quietDecoderKey with decState := .offer, arbState := .wait }
  | .decDrop => .decoder { quietDecoderKey with decState := .offer, handoffLast := true }
  | .decOfferHold => .decoder { quietDecoderKey with decState := .offer }
  | .decAbort => .decoder { quietDecoderKey with decState := .body, rxError := true }
  | .decIdle => .decoder quietDecoderKey
  | .decSync => .decoder (receiveKey .hunt startByte)
  | .decHuntSkip b => .decoder (receiveKey .hunt b)
  | .decLenOk b => .decoder (receiveKey .len b)
  | .decLenBad b => .decoder (receiveKey .len b)
  | .decUnstuff b => .decoder { receiveKey .body b with decEsc := true }
  | .decEsc => .decoder (receiveKey .body escByte)
  | .decData b => .decoder (receiveKey .body b)
  | .decTrailer b => .decoder { receiveKey .body b with decIdx := 2 }
  | .decComplete b => .decoder { receiveKey .body b with decIdx := 3 }
  | .csumCompute p => .call (.checksum p)
  | .csumCheck p lo hi => .call (.check p lo hi)
  | .csumGen p => .call (.trailer p)
  | .encFrame m => .call (.frame m)
  | .encStuff b => .call (.stuff b)
  | .ctlHalted => .arbiter (quietArbiterKey .dead)
  | .ctlStop => .arbiter { quietArbiterKey .off with ctrlStop := true }
  | .ctlStart => .arbiter { quietArbiterKey .off with ctrlStart := true }
  | .ctlIdle => .arbiter (quietArbiterKey .off)
  | .arbSelectSkip => .arbiter { quietArbiterKey .select with arbSkip := true }
  | .arbSelectSend => .arbiter { quietArbiterKey .select with qCount := 1 }
  | .arbSelectEmpty => .arbiter (quietArbiterKey .select)
  | .txError => .arbiter { quietArbiterKey .tx with txError := true }
  | .txLast => .arbiter { quietArbiterKey .tx with txReady := true, txAtLast := true }
  | .txByte => .arbiter { quietArbiterKey .tx with txReady := true }
  | .txStall => .arbiter (quietArbiterKey .tx)
  | .arbWaitRecv => .arbiter { quietArbiterKey .wait with decState := .offer }
  | .arbWaitTimeout => .arbiter { quietArbiterKey .wait with replyLast := true }
  | .arbWaitTick => .arbiter (quietArbiterKey .wait)
  | .arbClsUnsolicited => .arbiter { quietArbiterKey .classify with expectEmpty := true, rxPresent := true }
  | .arbClsIdle => .arbiter { quietArbiterKey .classify with expectEmpty := true }
  | .arbClsRetry => .arbiter (quietArbiterKey .classify)
  | .arbClsUnexpected => .arbiter { quietArbiterKey .classify with rxPresent := true }
  | .arbClsMatch => .arbiter { quietArbiterKey .classify with rxPresent := true, expectHit := true }
  | .arbDispatchDone => .arbiter { quietArbiterKey .dispatch with msgReady := true }
  | .arbDispatchHold => .arbiter (quietArbiterKey .dispatch)
  | .qCmdBad head len payload expect => .command (commandKey head len payload expect)
  | .qSend len payload expect => .command (commandKey false len payload expect)
  | .qSendPriority len payload expect => .command (commandKey true len payload expect)
  | .qPop => .queue (.pop 1)
  | .qPushHead m => .queue (.push m 0 3)
  | .qPushOvf m => .queue (.push m 3 3)

/-- The format whose table a word belongs to (R95): the four decoder and receive formats share the decoder table,
the control, transmit and arbiter formats the arbiter table. -/
def OpWord.formats : OpWord → List Format
  | .decoder _ => [.dec, .rx]
  | .arbiter _ => [.ctl, .tx, .arb]
  | .command _ => [.cmd]
  | .queue _ => [.qi]
  | .call _ => [.fn]

/-- The decoder state in which a bare byte of opcode_table.json is read. Only three of the RX rows have bits of
their own: DEC.ESC (0x7D, in BODY), DEC.LEN_BAD (0..2, in LEN) and DEC.SYNC (0x7E, in HUNT); every other byte is
read in HUNT. DESIGN CHOICE, log 8. -/
def byteState (b : Byte) : DecState :=
  if b = escByte then .body
  else if b.toNat < 3 then .len
  else .hunt

/-- The word that a row's bits stand for (R95): up to 8 bits, the received byte; more, the 9-bit value
`(cmd_head << 8) | cmd_len` of a command whose operand bits are 0. -/
def tableWord (nbits w : Nat) : OpWord :=
  if nbits ≤ 8 then .decoder (receiveKey (byteState (BitVec.ofNat 8 w)) (BitVec.ofNat 8 w))
  else .command (commandKey (w.testBit 8) (BitVec.ofNat 8 w) 0 0)

/-- The instruction the decoder reads from a row's bits. -/
def decodeTableWord (nbits w : Nat) : Option Instr :=
  match decode (tableWord nbits w) with
  | .op i => some i
  | .rejected _ => none

end Sys2Proof
end

