-- ==== Sys2Proof/Machine/State.lean ====
section
/-! DEFINITION. The state of the link core: every register of 10_state.md, the unwritten status R44 gives some of
them, the parameters of the instance, and the inputs of the coming cycles. -/

namespace Sys2Proof.Machine

/-- The input signals of one clock cycle (R40); `clk` is the step itself. -/
structure Inputs where
  rst : Bool
  rxValid : Bool
  rxData : Byte
  rxError : Bool
  txReady : Bool
  txError : Bool
  cmdValid : Bool
  cmdHead : Bool
  cmdLen : Byte
  cmdPayload : Lanes
  cmdExpect : TypeSet
  msgReady : Bool
  ctrlStart : Bool
  ctrlStop : Bool
deriving DecidableEq, Repr

/-- The inputs of a cycle that no stimulus line drives (R96), reset released. -/
def Inputs.quiet : Inputs where
  rst := false
  rxValid := false
  rxData := 0
  rxError := false
  txReady := true
  txError := false
  cmdValid := false
  cmdHead := false
  cmdLen := 0
  cmdPayload := 0
  cmdExpect := 0
  msgReady := true
  ctrlStart := false
  ctrlStop := false

/-- The inputs of the coming cycles without end, as plain data: those of `first`, one record a cycle, then those of
`loop` over and over; after `first` with no `loop`, the inputs of R96 that nothing drives (log 2). -/
structure InputStream where
  first : List Inputs
  loop : List Inputs
deriving DecidableEq, Repr

/-- Which of the registers that R44 leaves without a value at reset have been written since (log 1). The entries of
`dec_buf` need no bit: an unwritten entry is one that the list does not hold (log 9). -/
structure Written where
  decLen : Bool
  decIdx : Bool
  decOk : Bool
  decTimer : Bool
  cur : Bool
  txPos : Bool
  arbTimer : Bool
  rx : Bool
deriving DecidableEq, Repr

/-- Nothing written: the status after reset (R44). -/
def Written.none : Written where
  decLen := false
  decIdx := false
  decOk := false
  decTimer := false
  cur := false
  txPos := false
  arbTimer := false
  rx := false

/-- The value an FN operation or a stand-alone Q.POP returns (log 6). -/
inductive Returned where
  /-- nothing returned yet -/
  | nothing
  /-- CSUM.COMPUTE (R140) -/
  | word (c : Checksum)
  /-- CSUM.CHECK (R141) -/
  | bit (ok : Bool)
  /-- CSUM.GEN (R145), ENC.FRAME (R160), ENC.STUFF (R161) -/
  | bytes (bs : List Byte)
  /-- Q.POP (R224); none where the queue was empty -/
  | popped (m : Option TxMsg)
deriving DecidableEq, Repr

/-- The state. -/
structure State where
  /-- the parameters of the instance (R7 to R11); nothing writes them (log 4) -/
  cfg : Params
  /-- the inputs of this cycle and of the coming ones, without end; the model's own field (log 2) -/
  stim : InputStream
  /-- `arb_state` (R22) -/
  arbState : ArbState
  /-- `dec_state` (R24) -/
  decState : DecState
  /-- `dec_len` (R25) -/
  decLen : Byte
  /-- `dec_idx` (R26) -/
  decIdx : Byte
  /-- `dec_esc` (R27) -/
  decEsc : Bool
  /-- `dec_buf` (R28), its entries up to the highest one written (log 9) -/
  decBuf : List Byte
  /-- `dec_ok` (R29) -/
  decOk : Bool
  /-- `dec_timer` (R30); a Nat, its range is an invariant (log 11) -/
  decTimer : Nat
  /-- `arb_skip` (R31) -/
  arbSkip : Bool
  /-- `arb_expect` (R32) -/
  arbExpect : TypeSet
  /-- `cur` (R33) -/
  cur : TxMsg
  /-- `tx_pos` (R34) -/
  txPos : BitVec 9
  /-- `arb_timer` (R35); a Nat, its range is an invariant (log 11) -/
  arbTimer : Nat
  /-- `rx_present` (R36) -/
  rxPresent : Bool
  /-- `rx_n`, `rx_p`, `rx_ok` (R36) -/
  rx : RxMsg
  /-- the transmit queue `q[0..q_count)`, head first (R37); `q_count` is its length (log 10) -/
  queue : List TxMsg
  /-- `txq_ovf` (R38) -/
  txqOvf : Bool
  /-- `ev` (R39) -/
  ev : BitVec 16
  /-- which registers of R44 hold a value (log 1) -/
  written : Written
  /-- what the last FN operation or stand-alone Q.POP returned; the model's own field (log 6) -/
  ret : Returned
deriving DecidableEq, Repr

/-- Why the model stops. -/
inductive Fault where
  /-- Raised by the body of ARB.SELECT_SEND put to an empty queue. The operation's encoding asks `q_count > 0`
  (R180), so the operation map never selects it there and no step raises it. Safe: the model stops where the spec
  gives no effect (log 5). -/
  | sendEmpty
deriving DecidableEq, Repr

/-- Why an operation has no meaning. -/
inductive Refusal where
  /-- Raised by an arm of `exec` whose operation is not modelled; safe. No arm is left so. -/
  | notModelled (mnemonic : String)
deriving DecidableEq, Repr

/-- The machine right after reset (R45, R290), with the default parameters (R7 to R11). The registers that R44
leaves without a value hold 0 and are marked unwritten: DESIGN CHOICE, log 1 (unsafe). -/
def State.reset : State where
  cfg := Params.default
  stim := { first := [], loop := [] }
  arbState := .off
  decState := .hunt
  decLen := 0
  decIdx := 0
  decEsc := false
  decBuf := []
  decOk := false
  decTimer := 0
  arbSkip := false
  arbExpect := 0
  cur := { n := 0, p := [], e := 0 }
  txPos := 0
  arbTimer := 0
  rxPresent := false
  rx := { n := 0, p := [], ok := false }
  queue := []
  txqOvf := false
  ev := 0
  written := Written.none
  ret := .nothing

end Sys2Proof.Machine
end

