-- ==== Sys2Proof/Machine/Flags.lean ====
section
/-! DEFINITION. The event register (R39, R260) and the status word (R42). -/

namespace Sys2Proof.Machine

/-- The events of R260, in the order of their bits. -/
inductive Event where
  | rxAbort | lenErr | frameDone | handoffDrop | handoff | txDone | idleTimeout | retry
  | unexpected | matched | ackQueued | csumErr | dispatched | txqOvf | cmdErr | txErr
deriving DecidableEq, Repr

/-- The bit number of an event, its cause code (R260). -/
def Event.code : Event → Nat
  | .rxAbort => 0
  | .lenErr => 1
  | .frameDone => 2
  | .handoffDrop => 3
  | .handoff => 4
  | .txDone => 5
  | .idleTimeout => 6
  | .retry => 7
  | .unexpected => 8
  | .matched => 9
  | .ackQueued => 10
  | .csumErr => 11
  | .dispatched => 12
  | .txqOvf => 13
  | .cmdErr => 14
  | .txErr => 15

/-- `ev` with the bit of `e` alone. -/
def Event.mask (e : Event) : BitVec 16 := 1#16 <<< e.code

/-- `raise EV_X()` (R15): sets the event's bit in the event register. -/
def State.raise (e : Event) (s : State) : State := { s with ev := s.ev ||| e.mask }

/-- `ev` as it stands at the start of a cycle's updates: cleared (R39). -/
def State.clearEv (s : State) : State := { s with ev := 0 }

/-- The encoding of `arb_state` (R22). -/
def arbCode : ArbState → BitVec 3
  | .off => 0
  | .select => 1
  | .tx => 2
  | .wait => 3
  | .classify => 4
  | .dispatch => 5
  | .dead => 6
  | .stopped => 7

/-- The encoding of `dec_state` (R24). -/
def decCode : DecState → BitVec 2
  | .hunt => 0
  | .len => 1
  | .body => 2
  | .offer => 3

/-- `link_state` (R23), with its encoding: OFF 0, RUNNING 1, DEAD 2, STOPPED 3. -/
def linkCode : ArbState → BitVec 2
  | .off => 0
  | .select | .tx | .wait | .classify | .dispatch => 1
  | .dead => 2
  | .stopped => 3

/-- The status word (R42): reserved 31:18, QCOUNT 17:10, EXPECT 9, TXQ_OVF 8, SKIP 7, LINK 6:5, DEC 4:3, ARB 2:0. -/
def statusWord (s : State) : BitVec 32 :=
  0#14 ++ BitVec.ofNat 8 s.queue.length ++ BitVec.ofBool (s.arbExpect != 0) ++ BitVec.ofBool s.txqOvf
    ++ BitVec.ofBool s.arbSkip ++ linkCode s.arbState ++ decCode s.decState ++ arbCode s.arbState

end Sys2Proof.Machine
end

