-- ==== Sys2Proof/Machine/Operands.lean ====
section
/-! DEFINITION. The operand forms: payload lanes of the parallel ports (R62, R91, R92), accesses to the internal
arrays (R15), and the message records (R20, R21). -/

namespace Sys2Proof.Machine

/-- Lane `i` of a parallel port: bits `8*i+7` down to `8*i` (R62). -/
def lane (v : Lanes) (i : Nat) : Byte := v.extractLsb' (8 * i) 8

/-- `cmd_payload[0 .. n)`: the payload of a command (R91). -/
def lanesToBytes (v : Lanes) (n : Nat) : List Byte := (List.range n).map (lane v)

/-- The lanes that carry a payload; lanes past its end are 0 (R92). -/
def bytesToLanes : List Byte → Lanes
  | [] => 0
  | b :: bs => b.setWidth 2024 ||| (bytesToLanes bs <<< 8)

/-- Element `i` of an internal array (R15). An entry nothing has written reads 0 (log 1, log 9),
as does an index outside what is held, which no rule uses (R61, log 12). -/
def arrayAt (buf : List Byte) (i : Nat) : Byte := buf.getD i 0

/-- `MemRead(buf, 0, n)`, that is `buf[0 .. n)` (R15). -/
def arrayRead (buf : List Byte) (n : Nat) : List Byte := (List.range n).map (arrayAt buf)

/-- `buf[i] <- b` (R15). -/
def arrayWrite (buf : List Byte) (i : Nat) (b : Byte) : List Byte :=
  if i < buf.length then buf.set i b
  else buf ++ List.replicate (i - buf.length) 0 ++ [b]

/-- `type(m) = m.p[0]` (R20). -/
def msgType (p : List Byte) : Byte := arrayAt p 0

/-- Membership of a type in a set of types (R20). -/
def typeIn (t : Byte) (e : TypeSet) : Bool := e.getLsbD t.toNat

/-- `ACK_REQUIRED(t)` (R11). -/
def ackRequired (c : Params) (t : Byte) : Bool := typeIn t c.ackRequired

/-- ACK_MSG (R21). -/
def ackMsg : TxMsg where
  n := 1
  p := [ackType]
  e := 0

/-- The message a command transfer carries (R221, R222). -/
def commandMsg (len : Byte) (payload : Lanes) (expect : TypeSet) : TxMsg where
  n := len
  p := lanesToBytes payload len.toNat
  e := expect

end Sys2Proof.Machine
end

