-- ==== Sys2Proof/Machine/Ops.lean ====
section
/-! DEFINITION. The named operations on the registers that the meanings share: one write operation per register, and
the pieces of pseudocode that several rules have in common. The fatal transition (R261) and reset, the only way back
from it (R263, R290), are here, each once. -/

namespace Sys2Proof.Machine

/-! The coming inputs (log 2). -/

/-- The inputs of this cycle. -/
def InputStream.now (x : InputStream) : Inputs :=
  match x.first with
  | i :: _ => i
  | [] => x.loop.headD Inputs.quiet

/-- The inputs of the cycles after this one. -/
def InputStream.next (x : InputStream) : InputStream :=
  match x.first with
  | _ :: rest => { x with first := rest }
  | [] => { x with first := x.loop.tail }

/-- The inputs of the cycles after the coming `n`. -/
def InputStream.drop : Nat → InputStream → InputStream
  | 0, x => x
  | n + 1, x => InputStream.drop n x.next

/-- The inputs of one cycle, then those of `x` but for its first cycle. -/
def InputStream.setNow (i : Inputs) (x : InputStream) : InputStream :=
  { x.next with first := i :: x.next.first }

/-- The inputs of one cycle, then quiet ones. -/
def InputStream.single (i : Inputs) : InputStream := { first := [i], loop := [] }

/-- The same inputs in every cycle. -/
def InputStream.always (i : Inputs) : InputStream := { first := [], loop := [i] }

/-! One write per register (R15); a register of R44 is marked written by it. -/

/-- `dec_state <- v` -/
def State.setDecState (s : State) (v : DecState) : State := { s with decState := v }

/-- `dec_len <- v` -/
def State.setDecLen (s : State) (v : Byte) : State :=
  { s with decLen := v, written := { s.written with decLen := true } }

/-- `dec_idx <- v` -/
def State.setDecIdx (s : State) (v : Byte) : State :=
  { s with decIdx := v, written := { s.written with decIdx := true } }

/-- `dec_esc <- v` -/
def State.setDecEsc (s : State) (v : Bool) : State := { s with decEsc := v }

/-- `dec_buf[i] <- b` -/
def State.setDecBuf (s : State) (i : Nat) (b : Byte) : State := { s with decBuf := arrayWrite s.decBuf i b }

/-- `dec_ok <- v` -/
def State.setDecOk (s : State) (v : Bool) : State :=
  { s with decOk := v, written := { s.written with decOk := true } }

/-- `dec_timer <- v` -/
def State.setDecTimer (s : State) (v : Nat) : State :=
  { s with decTimer := v, written := { s.written with decTimer := true } }

/-- `arb_state <- v` -/
def State.setArbState (s : State) (v : ArbState) : State := { s with arbState := v }

/-- `arb_skip <- v` -/
def State.setArbSkip (s : State) (v : Bool) : State := { s with arbSkip := v }

/-- `arb_expect <- v` -/
def State.setArbExpect (s : State) (v : TypeSet) : State := { s with arbExpect := v }

/-- `cur <- m` -/
def State.setCur (s : State) (m : TxMsg) : State :=
  { s with cur := m, written := { s.written with cur := true } }

/-- `tx_pos <- v` -/
def State.setTxPos (s : State) (v : BitVec 9) : State :=
  { s with txPos := v, written := { s.written with txPos := true } }

/-- `arb_timer <- v` -/
def State.setArbTimer (s : State) (v : Nat) : State :=
  { s with arbTimer := v, written := { s.written with arbTimer := true } }

/-- `rx_present <- v` -/
def State.setRxPresent (s : State) (v : Bool) : State := { s with rxPresent := v }

/-- `rx_n <- m.n`, `rx_p <- m.p`, `rx_ok <- m.ok` -/
def State.setRx (s : State) (m : RxMsg) : State :=
  { s with rx := m, written := { s.written with rx := true } }

/-- `q <- v`, `q_count <- len(v)` -/
def State.setQueue (s : State) (v : List TxMsg) : State := { s with queue := v }

/-- `txq_ovf <- v` -/
def State.setTxqOvf (s : State) (v : Bool) : State := { s with txqOvf := v }

/-- The value an FN operation or a stand-alone Q.POP returns (log 6). -/
def State.setRet (s : State) (v : Returned) : State := { s with ret := v }

/-! Decoder -/

/-- `dec_state <- HUNT`, `dec_esc <- 0` (R110, R122). -/
def toHunt (s : State) : State := (s.setDecState .hunt).setDecEsc false

/-- `dec_buf[dec_idx] <- b`, `dec_idx <- dec_idx + 1` (R117, R119, R120). -/
def storeByte (b : Byte) (s : State) : State :=
  (s.setDecBuf s.decIdx.toNat b).setDecIdx (s.decIdx + 1)

/-- The message the decoder holds in OFFER: `n = dec_len - 2`, `p = dec_buf[0 .. dec_len-2)`, `ok = dec_ok` (R124). -/
def heldMessage (s : State) : RxMsg where
  n := s.decLen - 2
  p := arrayRead s.decBuf (s.decLen.toNat - 2)
  ok := s.decOk

/-! Arbiter -/

/-- `arb_timer <- 0`, `arb_state <- WAIT` (R163, R181, R182). -/
def enterWait (s : State) : State := (s.setArbTimer 0).setArbState .wait

/-- `route()` (R191). -/
def route (s : State) : State :=
  if s.rxPresent = true ∧ s.rx.ok = true then s.setArbState .dispatch
  else if s.rxPresent = true then (s.raise .csumErr).setArbState .select
  else s.setArbState .select

/-! Transmit queue -/

/-- `HOST_LIMIT = TXQ_DEPTH - 2` (R220). -/
def hostLimit (c : Params) : Nat := c.txqDepth - 2

/-- `q_count < TXQ_DEPTH`: an internal push finds a free entry (R225). -/
def hasRoom (s : State) : Bool := decide (s.queue.length < s.cfg.txqDepth)

/-- Q.PUSH_OVF (R226): the message is discarded, the sticky flag set, the event raised. -/
def pushOverflow (s : State) : State := (s.setTxqOvf true).raise .txqOvf

/-- Q.PUSH_HEAD (R225), which is Q.PUSH_OVF on a full queue. -/
def pushHead (m : TxMsg) (s : State) : State :=
  if hasRoom s = true then s.setQueue (m :: s.queue) else pushOverflow s

/-! The fatal transition and reset -/

/-- The fatal transition (R261), the link core's only trap-like entry: `arb_state <- DEAD` and EV_TX_ERR; nothing is
saved elsewhere, there is no vector, and every other register keeps its value. -/
def enterDead (s : State) : State := (s.setArbState .dead).raise .txErr

/-- Reset (R290), the only way back from DEAD and STOPPED (R263): every register takes its reset value or becomes
unwritten. The parameters and the environment's coming inputs are no registers and stay (log 15). -/
def resetCore (s : State) : State :=
  { State.reset with cfg := s.cfg, stim := s.stim.next }

end Sys2Proof.Machine
end

