-- ==== Sys2Proof/Machine/Arbiter.lean ====
section
/-! DEFINITION. The link arbiter's operations (43_arbiter.md), each the pseudocode of its rule. -/

namespace Sys2Proof.Machine

/-- ARB.SELECT_SEND (R180): pop the head and start sending it. Its encoding asks for a queue that is not empty; on an
empty one the body stops with a fault of its own (log 5). -/
def execArbSelectSend (s : State) : Host.Outcome State Fault Refusal :=
  match s.queue with
  | [] => .fault .sendEmpty
  | m :: rest => .next (((((s.setQueue rest).setCur m).setArbExpect m.e).setTxPos 0).setArbState .tx)

/-- ARB.SELECT_EMPTY (R181). -/
def execArbSelectEmpty (s : State) : Host.Outcome State Fault Refusal :=
  .next (enterWait (s.setArbExpect 0))

/-- ARB.SELECT_SKIP (R182). -/
def execArbSelectSkip (s : State) : Host.Outcome State Fault Refusal :=
  .next (enterWait ((s.setArbSkip false).setArbExpect 0))

/-- ARB.WAIT_TICK (R183). -/
def execArbWaitTick (s : State) : Host.Outcome State Fault Refusal :=
  .next (s.setArbTimer (s.arbTimer + 1))

/-- ARB.WAIT_RECV (R184): the arbiter's half of the hand-off. -/
def execArbWaitRecv (s : State) : Host.Outcome State Fault Refusal :=
  .next (((s.setRxPresent true).setRx (heldMessage s)).setArbState .classify)

/-- ARB.WAIT_TIMEOUT (R185). -/
def execArbWaitTimeout (s : State) : Host.Outcome State Fault Refusal :=
  .next ((s.setRxPresent false).setArbState .classify)

/-- ARB.CLS_IDLE (R186). -/
def execArbClsIdle (s : State) : Host.Outcome State Fault Refusal :=
  .next (route (s.raise .idleTimeout))

/-- The push of an owed ACK (R187): EV_ACK_QUEUED only where the push is not refused as an overflow. -/
def pushAck (s : State) : State :=
  if hasRoom s = true then (pushHead ackMsg s).raise .ackQueued else pushHead ackMsg s

/-- ARB.CLS_UNSOLICITED (R187): an ACK is owed whatever the checksum. -/
def execArbClsUnsolicited (s : State) : Host.Outcome State Fault Refusal :=
  .next (route (if ackRequired s.cfg (msgType s.rx.p) = true then pushAck s else s))

/-- ARB.CLS_RETRY (R188). -/
def execArbClsRetry (s : State) : Host.Outcome State Fault Refusal :=
  .next (route ((pushHead s.cur s).raise .retry))

/-- ARB.CLS_UNEXPECTED (R189). -/
def execArbClsUnexpected (s : State) : Host.Outcome State Fault Refusal :=
  .next (route (((pushHead s.cur s).setArbSkip true).raise .unexpected))

/-- ARB.CLS_MATCH (R190). -/
def execArbClsMatch (s : State) : Host.Outcome State Fault Refusal :=
  .next (route (s.raise .matched))

/-- ARB.DISPATCH_HOLD (R192): no register changes. -/
def execArbDispatchHold (s : State) : Host.Outcome State Fault Refusal :=
  .next s

/-- ARB.DISPATCH_DONE (R193). -/
def execArbDispatchDone (s : State) : Host.Outcome State Fault Refusal :=
  .next ((s.raise .dispatched).setArbState .select)

end Sys2Proof.Machine
end

