-- ==== Sys2Proof/Machine/Checksum.lean ====
section
/-! DEFINITION. The checksum unit (41_checksum.md): FLETCHER16, CRC16_CCITT, and the FN operations CSUM.COMPUTE,
CSUM.CHECK and CSUM.GEN, which write no register and leave their result in `ret` (log 6). -/

namespace Sys2Proof.Machine

/-- One round of FLETCHER16 on the pair `(s1, s2)` (R142): exact sums, then the remainder modulo 255. -/
def fletcherStep (acc : Nat × Nat) (b : Byte) : Nat × Nat :=
  let s1 := (acc.1 + b.toNat) % 255
  (s1, (acc.2 + s1) % 255)

/-- The sums `(s1, s2)` of FLETCHER16 over a payload (R142). -/
def fletcherSums (p : List Byte) : Nat × Nat := p.foldl fletcherStep (0, 0)

/-- FLETCHER16 (R142): `(s2 << 8) | s1`. -/
def fletcher16 (p : List Byte) : Checksum :=
  BitVec.ofNat 8 (fletcherSums p).2 ++ BitVec.ofNat 8 (fletcherSums p).1

/-- One shift of CRC16_CCITT, most significant bit first (R143). -/
def crcShift (c : Checksum) : Checksum :=
  if c.msb = true then (c <<< 1) ^^^ 0x1021 else c <<< 1

/-- One payload byte of CRC16_CCITT (R143): exclusive-or into the high byte, then eight shifts. -/
def crcByte (c : Checksum) (b : Byte) : Checksum :=
  crcShift (crcShift (crcShift (crcShift (crcShift (crcShift (crcShift (crcShift
    (c ^^^ (b.setWidth 16 <<< 8)))))))))

/-- CRC16_CCITT (R143), initial value 0xFFFF. -/
def crc16Ccitt (p : List Byte) : Checksum := p.foldl crcByte 0xFFFF

/-- CHECKSUM (R140). -/
def checksum : ChecksumAlg → List Byte → Checksum
  | .fletcher16, p => fletcher16 p
  | .crc16Ccitt, p => crc16Ccitt p

/-- The low checksum byte, sent first (R62, R87). -/
def checksumLow (c : Checksum) : Byte := c.extractLsb' 0 8

/-- The high checksum byte, sent second (R62, R87). -/
def checksumHigh (c : Checksum) : Byte := c.extractLsb' 8 8

/-- The trailer `lo, hi` of a payload (R145). -/
def trailer (alg : ChecksumAlg) (p : List Byte) : List Byte :=
  [checksumLow (checksum alg p), checksumHigh (checksum alg p)]

/-- CHECK (R141): all 16 bits compared with `(hi << 8) | lo`. -/
def checkTrailer (alg : ChecksumAlg) (p : List Byte) (lo hi : Byte) : Bool :=
  checksum alg p == hi ++ lo

/-- CSUM.COMPUTE (R140). -/
def execCsumCompute (p : List Byte) (s : State) : Host.Outcome State Fault Refusal :=
  .next (s.setRet (.word (checksum s.cfg.checksumAlg p)))

/-- CSUM.CHECK (R141). -/
def execCsumCheck (p : List Byte) (lo hi : Byte) (s : State) : Host.Outcome State Fault Refusal :=
  .next (s.setRet (.bit (checkTrailer s.cfg.checksumAlg p lo hi)))

/-- CSUM.GEN (R145). -/
def execCsumGen (p : List Byte) (s : State) : Host.Outcome State Fault Refusal :=
  .next (s.setRet (.bytes (trailer s.cfg.checksumAlg p)))

end Sys2Proof.Machine
end

