-- ==== Sys2Proof/Machine/Control.lean ====
section
/-! DEFINITION. The lifecycle operations (45_control.md). -/

namespace Sys2Proof.Machine

/-- CTL.START (R240). -/
def execCtlStart (s : State) : Host.Outcome State Fault Refusal :=
  .next (s.setArbState .select)

/-- CTL.STOP (R241); the decoder performs DEC.DISABLED in the same cycle. -/
def execCtlStop (s : State) : Host.Outcome State Fault Refusal :=
  .next (s.setArbState .stopped)

/-- CTL.HALTED (R242): no register changes. -/
def execCtlHalted (s : State) : Host.Outcome State Fault Refusal :=
  .next s

/-- CTL.IDLE (R243): no register changes. -/
def execCtlIdle (s : State) : Host.Outcome State Fault Refusal :=
  .next s

end Sys2Proof.Machine
end

