-- ==== Sys2Proof/Machine/Decoder.lean ====
section
/-! DEFINITION. The frame decoder's operations (40_decoder.md), each the pseudocode of its rule. -/

namespace Sys2Proof.Machine

/-- DEC.DISABLED (R110). -/
def execDecDisabled (s : State) : Host.Outcome State Fault Refusal :=
  .next (toHunt s)

/-- DEC.IDLE (R112): no register changes. -/
def execDecIdle (s : State) : Host.Outcome State Fault Refusal :=
  .next s

/-- DEC.HUNT_SKIP (R113): the byte is discarded, no register changes. -/
def execDecHuntSkip (_b : Byte) (s : State) : Host.Outcome State Fault Refusal :=
  .next s

/-- DEC.SYNC (R114). -/
def execDecSync (s : State) : Host.Outcome State Fault Refusal :=
  .next (s.setDecState .len)

/-- DEC.LEN_OK (R115). -/
def execDecLenOk (b : Byte) (s : State) : Host.Outcome State Fault Refusal :=
  .next ((((s.setDecLen b).setDecIdx 0).setDecEsc false).setDecState .body)

/-- DEC.LEN_BAD (R116). -/
def execDecLenBad (_b : Byte) (s : State) : Host.Outcome State Fault Refusal :=
  .next ((s.setDecState .hunt).raise .lenErr)

/-- DEC.DATA (R117). -/
def execDecData (b : Byte) (s : State) : Host.Outcome State Fault Refusal :=
  .next (storeByte b s)

/-- DEC.ESC (R118). -/
def execDecEsc (s : State) : Host.Outcome State Fault Refusal :=
  .next (s.setDecEsc true)

/-- DEC.UNSTUFF (R119): the byte is stored with the stuffing bit set back. -/
def execDecUnstuff (b : Byte) (s : State) : Host.Outcome State Fault Refusal :=
  .next ((storeByte (b ||| stuffBit) s).setDecEsc false)

/-- DEC.TRAILER (R120). -/
def execDecTrailer (b : Byte) (s : State) : Host.Outcome State Fault Refusal :=
  .next (storeByte b s)

/-- The checksum verdict of a frame that `b` completes: `CHECK(dec_buf[0 .. L-2), dec_buf[L-2], b)` (R121). -/
def completeVerdict (b : Byte) (s : State) : Bool :=
  checkTrailer s.cfg.checksumAlg (arrayRead s.decBuf (s.decLen.toNat - 2))
    (arrayAt s.decBuf (s.decLen.toNat - 2)) b

/-- DEC.COMPLETE (R121). -/
def execDecComplete (b : Byte) (s : State) : Host.Outcome State Fault Refusal :=
  .next ((((((s.setDecBuf (s.decLen.toNat - 1) b).setDecIdx s.decLen).setDecOk (completeVerdict b s)).setDecTimer
    0).setDecState .offer).raise .frameDone)

/-- DEC.ABORT (R122). -/
def execDecAbort (s : State) : Host.Outcome State Fault Refusal :=
  .next ((toHunt s).raise .rxAbort)

/-- DEC.OFFER_HOLD (R123). -/
def execDecOfferHold (s : State) : Host.Outcome State Fault Refusal :=
  .next (s.setDecTimer (s.decTimer + 1))

/-- DEC.HANDOFF (R124); ARB.WAIT_RECV of the same cycle copies the message. -/
def execDecHandoff (s : State) : Host.Outcome State Fault Refusal :=
  .next ((s.setDecState .hunt).raise .handoff)

/-- DEC.DROP (R125). -/
def execDecDrop (s : State) : Host.Outcome State Fault Refusal :=
  .next ((s.setDecState .hunt).raise .handoffDrop)

end Sys2Proof.Machine
end

