-- ==== Sys2Proof/Machine/Encoder.lean ====
section
/-! DEFINITION. The frame encoder and transmitter (42_encoder.md): ENC.STUFF and ENC.FRAME, pure functions, and the
TX operations. -/

namespace Sys2Proof.Machine

/-- STUFF1 (R161): the escape byte becomes `0x7D`, `b & ~0x20`; any other byte is sent as it is. -/
def stuff1 (b : Byte) : List Byte :=
  if b = escByte then [escByte, b &&& ~~~stuffBit] else [b]

/-- STUFF (R161). -/
def stuff (p : List Byte) : List Byte := p.flatMap stuff1

/-- ENCODE (R160): start byte, unstuffed length `n + 2`, stuffed payload, unstuffed trailer. -/
def encodeFrame (alg : ChecksumAlg) (m : TxMsg) : List Byte :=
  [startByte, m.n + 2] ++ stuff m.p ++ trailer alg m.p

/-- `ENCODE(cur)`, the frame being sent. -/
def curFrame (s : State) : List Byte := encodeFrame s.cfg.checksumAlg s.cur

/-- ENC.FRAME (R160). -/
def execEncFrame (m : TxMsg) (s : State) : Host.Outcome State Fault Refusal :=
  .next (s.setRet (.bytes (encodeFrame s.cfg.checksumAlg m)))

/-- ENC.STUFF (R161). -/
def execEncStuff (b : Byte) (s : State) : Host.Outcome State Fault Refusal :=
  .next (s.setRet (.bytes (stuff1 b)))

/-- TX.BYTE (R162). -/
def execTxByte (s : State) : Host.Outcome State Fault Refusal :=
  .next (s.setTxPos (s.txPos + 1))

/-- TX.LAST (R163). -/
def execTxLast (s : State) : Host.Outcome State Fault Refusal :=
  .next ((enterWait s).raise .txDone)

/-- TX.STALL (R164): no register changes. -/
def execTxStall (s : State) : Host.Outcome State Fault Refusal :=
  .next s

/-- TX.ERROR (R165): the fatal transition. -/
def execTxError (s : State) : Host.Outcome State Fault Refusal :=
  .next (enterDead s)

end Sys2Proof.Machine
end

