-- ==== Sys2Proof/Machine/Queue.lean ====
section
/-! DEFINITION. The transmit queue's operations (44_txqueue.md). -/

namespace Sys2Proof.Machine

/-- Q.SEND (R221): append at the tail. -/
def execQSend (len : Byte) (payload : Lanes) (expect : TypeSet) (s : State) : Host.Outcome State Fault Refusal :=
  .next (s.setQueue (s.queue ++ [commandMsg len payload expect]))

/-- Q.SEND_PRIORITY (R222): insert at the head. -/
def execQSendPriority (len : Byte) (payload : Lanes) (expect : TypeSet) (s : State) :
    Host.Outcome State Fault Refusal :=
  .next (s.setQueue (commandMsg len payload expect :: s.queue))

/-- Q.CMD_BAD (R223): the command is consumed and discarded. -/
def execQCmdBad (_head : Bool) (_len : Byte) (_payload : Lanes) (_expect : TypeSet) (s : State) :
    Host.Outcome State Fault Refusal :=
  .next (s.raise .cmdErr)

/-- Q.POP (R224), stand-alone: the head is removed and returned in `ret` (log 6); on an empty queue the poll returns
"none" and nothing is removed, as the rule's quoted source says. -/
def execQPop (s : State) : Host.Outcome State Fault Refusal :=
  .next ((s.setQueue s.queue.tail).setRet (.popped s.queue.head?))

/-- Q.PUSH_HEAD (R225). -/
def execQPushHead (m : TxMsg) (s : State) : Host.Outcome State Fault Refusal :=
  .next (pushHead m s)

/-- Q.PUSH_OVF (R226). -/
def execQPushOvf (_m : TxMsg) (s : State) : Host.Outcome State Fault Refusal :=
  .next (pushOverflow s)

end Sys2Proof.Machine
end

