-- ==== Sys2Proof/Machine/Dispatch.lean ====
section
/-! DEFINITION. The dispatch: one arm per operation of opcode_table.json, each one call of its meaning. `exec i s` is the
body of the operation `i` put to `s`; which operation runs in a cycle is the operation map's (R94, log 5). -/

namespace Sys2Proof.Machine

def exec (i : Instr) (s : State) : Host.Outcome State Fault Refusal :=
  match i with
  | .decDisabled => Sys2Proof.Machine.execDecDisabled s
  | .decHandoff => Sys2Proof.Machine.execDecHandoff s
  | .decDrop => Sys2Proof.Machine.execDecDrop s
  | .decOfferHold => Sys2Proof.Machine.execDecOfferHold s
  | .decAbort => Sys2Proof.Machine.execDecAbort s
  | .decIdle => Sys2Proof.Machine.execDecIdle s
  | .decSync => Sys2Proof.Machine.execDecSync s
  | .decHuntSkip b => Sys2Proof.Machine.execDecHuntSkip b s
  | .decLenOk b => Sys2Proof.Machine.execDecLenOk b s
  | .decLenBad b => Sys2Proof.Machine.execDecLenBad b s
  | .decUnstuff b => Sys2Proof.Machine.execDecUnstuff b s
  | .decEsc => Sys2Proof.Machine.execDecEsc s
  | .decData b => Sys2Proof.Machine.execDecData b s
  | .decTrailer b => Sys2Proof.Machine.execDecTrailer b s
  | .decComplete b => Sys2Proof.Machine.execDecComplete b s
  | .csumCompute p => Sys2Proof.Machine.execCsumCompute p s
  | .csumCheck p lo hi => Sys2Proof.Machine.execCsumCheck p lo hi s
  | .csumGen p => Sys2Proof.Machine.execCsumGen p s
  | .encFrame m => Sys2Proof.Machine.execEncFrame m s
  | .encStuff b => Sys2Proof.Machine.execEncStuff b s
  | .ctlHalted => Sys2Proof.Machine.execCtlHalted s
  | .ctlStop => Sys2Proof.Machine.execCtlStop s
  | .ctlStart => Sys2Proof.Machine.execCtlStart s
  | .ctlIdle => Sys2Proof.Machine.execCtlIdle s
  | .arbSelectSkip => Sys2Proof.Machine.execArbSelectSkip s
  | .arbSelectSend => Sys2Proof.Machine.execArbSelectSend s
  | .arbSelectEmpty => Sys2Proof.Machine.execArbSelectEmpty s
  | .txError => Sys2Proof.Machine.execTxError s
  | .txLast => Sys2Proof.Machine.execTxLast s
  | .txByte => Sys2Proof.Machine.execTxByte s
  | .txStall => Sys2Proof.Machine.execTxStall s
  | .arbWaitRecv => Sys2Proof.Machine.execArbWaitRecv s
  | .arbWaitTimeout => Sys2Proof.Machine.execArbWaitTimeout s
  | .arbWaitTick => Sys2Proof.Machine.execArbWaitTick s
  | .arbClsUnsolicited => Sys2Proof.Machine.execArbClsUnsolicited s
  | .arbClsIdle => Sys2Proof.Machine.execArbClsIdle s
  | .arbClsRetry => Sys2Proof.Machine.execArbClsRetry s
  | .arbClsUnexpected => Sys2Proof.Machine.execArbClsUnexpected s
  | .arbClsMatch => Sys2Proof.Machine.execArbClsMatch s
  | .arbDispatchDone => Sys2Proof.Machine.execArbDispatchDone s
  | .arbDispatchHold => Sys2Proof.Machine.execArbDispatchHold s
  | .qCmdBad head len payload expect => Sys2Proof.Machine.execQCmdBad head len payload expect s
  | .qSend len payload expect => Sys2Proof.Machine.execQSend len payload expect s
  | .qSendPriority len payload expect => Sys2Proof.Machine.execQSendPriority len payload expect s
  | .qPop => Sys2Proof.Machine.execQPop s
  | .qPushHead m => Sys2Proof.Machine.execQPushHead m s
  | .qPushOvf m => Sys2Proof.Machine.execQPushOvf m s

end Sys2Proof.Machine
end

