-- ==== Sys2Proof/Machine/Ports.lean ====
section
/-! DEFINITION. The ports: this cycle's inputs, the output signals, each a function of the state alone (R5, R41), and
the transfers of a cycle (R90). -/

namespace Sys2Proof.Machine

/-- The inputs of this cycle (R40, log 2). -/
def inputsNow (s : State) : Inputs := s.stim.now

/-- The output signals (R41). -/
structure Outputs where
  rxReady : Bool
  txValid : Bool
  txData : Byte
  cmdReady : Bool
  msgValid : Bool
  msgLen : Byte
  msgType : Byte
  msgPayload : Lanes
  ev : BitVec 16
  status : BitVec 32
deriving DecidableEq, Repr

/-- `rx_ready` (R41). -/
def rxReady (s : State) : Bool := rxReadyOf s.arbState s.decState

/-- `tx_valid` (R41). -/
def txValid (s : State) : Bool := decide (s.arbState = .tx)

/-- `tx_data` (R41): the byte `ENCODE(cur)[tx_pos]` in TX, else 0x00. -/
def txData (s : State) : Byte :=
  if s.arbState = .tx then arrayAt (curFrame s) s.txPos.toNat else 0x00

/-- `cmd_ready` (R41, R220). -/
def cmdReady (s : State) : Bool := !s.arbState.halted && decide (s.queue.length < hostLimit s.cfg)

/-- `msg_valid` (R41). -/
def msgValid (s : State) : Bool := decide (s.arbState = .dispatch)

/-- The outputs of a cycle (R41). The three `msg_` data outputs show the received-message register at all times and
carry no meaning while `msg_valid` is 0 (S8, log 13). -/
def outputs (s : State) : Outputs where
  rxReady := rxReady s
  txValid := txValid s
  txData := txData s
  cmdReady := cmdReady s
  msgValid := msgValid s
  msgLen := s.rx.n
  msgType := msgType s.rx.p
  msgPayload := bytesToLanes (arrayRead s.rx.p s.rx.n.toNat)
  ev := s.ev
  status := statusWord s

/-- The byte transferred on the receive port in this cycle (R90). None counts while `rst` is 1 (R290). -/
def rxTransfer (s : State) : Option Byte :=
  if (inputsNow s).rst = false ∧ (inputsNow s).rxValid = true ∧ rxReady s = true then some (inputsNow s).rxData
  else none

/-- The byte transferred on the transmit port in this cycle (R90). -/
def txTransfer (s : State) : Option Byte :=
  if (inputsNow s).rst = false ∧ txValid s = true ∧ (inputsNow s).txReady = true then some (txData s) else none

/-- The message transferred on the command port in this cycle, any length (R90, R91). -/
def cmdTransfer (s : State) : Option TxMsg :=
  if (inputsNow s).rst = false ∧ (inputsNow s).cmdValid = true ∧ cmdReady s = true then
    some (commandMsg (inputsNow s).cmdLen (inputsNow s).cmdPayload (inputsNow s).cmdExpect)
  else none

/-- The payload transferred on the dispatch port in this cycle (R90, R92). -/
def msgTransfer (s : State) : Option (List Byte) :=
  if (inputsNow s).rst = false ∧ msgValid s = true ∧ (inputsNow s).msgReady = true then
    some (arrayRead s.rx.p s.rx.n.toNat)
  else none

end Sys2Proof.Machine
end

