-- ==== Sys2Proof/Machine/Fetch.lean ====
section
/-! DEFINITION. What stands for the fetch: each agent's operation word of this cycle, read from the state at the start
of the cycle and the cycle's inputs (R94), and the placing of a given word where the next step reads it (log 8). -/

namespace Sys2Proof.Machine

/-- What the decoder table reads in this cycle. -/
def decoderKeyOf (s : State) : DecoderKey where
  arbState := s.arbState
  ctrlStop := (inputsNow s).ctrlStop
  txError := (inputsNow s).txError
  decState := s.decState
  handoffLast := decide (s.decTimer + 1 = s.cfg.tHandoff)
  rxError := (inputsNow s).rxError
  rxValid := (inputsNow s).rxValid
  b := (inputsNow s).rxData
  decEsc := s.decEsc
  decLen := s.decLen
  decIdx := s.decIdx

/-- What the arbiter table reads in this cycle. -/
def arbiterKeyOf (s : State) : ArbiterKey where
  arbState := s.arbState
  ctrlStop := (inputsNow s).ctrlStop
  ctrlStart := (inputsNow s).ctrlStart
  arbSkip := s.arbSkip
  qCount := s.queue.length
  txError := (inputsNow s).txError
  txReady := (inputsNow s).txReady
  txAtLast := decide (s.txPos.toNat + 1 = (curFrame s).length)
  decState := s.decState
  replyLast := decide (s.arbTimer + 1 = s.cfg.tReply)
  expectEmpty := decide (s.arbExpect = 0)
  rxPresent := s.rxPresent
  expectHit := typeIn (msgType s.rx.p) s.arbExpect
  msgReady := (inputsNow s).msgReady

/-- What the host table reads in this cycle. -/
def commandKeyOf (s : State) : CommandKey where
  cmdValid := (inputsNow s).cmdValid
  cmdReady := cmdReady s
  cmdHead := (inputsNow s).cmdHead
  cmdLen := (inputsNow s).cmdLen
  cmdPayload := (inputsNow s).cmdPayload
  cmdExpect := (inputsNow s).cmdExpect

/-- The decoder's operation of this cycle. -/
def decoderOp (s : State) : Instr := selectDecoder (decoderKeyOf s)

/-- The arbiter's operation of this cycle. -/
def arbiterOp (s : State) : Instr := selectArbiter (arbiterKeyOf s)

/-- The host's operation on the queue in this cycle, if a command is transferred. -/
def commandOp (s : State) : Option Instr := selectCommand (commandKeyOf s)

/-- The operations of this cycle in the order their queue accesses apply (R66): the arbiter's dequeue, the host's
insertion, the arbiter's internal push. Only ARB.SELECT_SEND dequeues. On registers the order is of no effect, because
no operation reads a register that another operation of the same cycle writes (R15, log 3); the decoder's operation
stands last, so that the hand-off copies the message before DEC.HANDOFF leaves OFFER. -/
def cycleOps (s : State) : List Instr :=
  if arbiterOp s = .arbSelectSend then arbiterOp s :: (commandOp s).toList ++ [decoderOp s]
  else (commandOp s).toList ++ [arbiterOp s, decoderOp s]

/-- Places a received byte: the link runs with the arbiter in DISPATCH and the host not ready (ARB.DISPATCH_HOLD, which
changes nothing), the decoder stands where the byte is read, and the byte is offered (log 8). -/
def placeByte (b : Byte) (s : State) : State :=
  let s1 := ((s.setArbState .dispatch).setDecState (byteState b)).setDecEsc false
  let s2 := if byteState b = .body then (s1.setDecLen 4).setDecIdx 0 else s1
  { s2 with stim := s.stim.setNow { Inputs.quiet with rxValid := true, rxData := b, msgReady := false } }

/-- Places a command: the link is OFF (CTL.IDLE and DEC.DISABLED, which change nothing after reset), the queue is
emptied where the port would not be ready, and the command is offered (log 8). -/
def placeCommand (head : Bool) (len : Byte) (s : State) : State :=
  let s1 := s.setArbState .off
  let s2 := if cmdReady s1 = true then s1 else s1.setQueue []
  { s2 with stim := s.stim.setNow { Inputs.quiet with cmdValid := true, cmdHead := head, cmdLen := len } }

/-- Places a row's bits so that the next step runs the instruction they decode to (`tableWord`). -/
def placeWord (nbits w : Nat) (s : State) : State :=
  if nbits ≤ 8 then placeByte (BitVec.ofNat 8 w) s
  else placeCommand (w.testBit 8) (BitVec.ofNat 8 w) s

end Sys2Proof.Machine
end

