-- ==== Sys2Proof/Machine/Cycle.lean ====
section
/-! DEFINITION. One clock cycle (R5, R6, R94): reset, or one operation of each agent. -/

namespace Sys2Proof.Machine

/-- The operations of a list, one after the other, stopping at the first that does not answer a next state. -/
def runOps : List Instr → State → Host.Outcome State Fault Refusal
  | [], s => .next s
  | i :: is, s =>
    match exec i s with
    | .next t => runOps is t
    | .fault r => .fault r
    | .refused r => .refused r

/-- The state the operations of a cycle write to: `ev` cleared (R39), the cycle's inputs used up. -/
def beginCycle (s : State) : State := { s.clearEv with stim := s.stim.next }

/-- One clock cycle: with `rst = 1` reset and no operation (R290); else the operations the tables of R94 select from
the state at the start of the cycle. -/
def cycle (s : State) : Host.Outcome State Fault Refusal :=
  if (inputsNow s).rst = true then .next (resetCore s)
  else runOps (cycleOps s) (beginCycle s)

end Sys2Proof.Machine
end

