-- ==== Sys2Proof/Machine/Stimulus.lean ====
section
/-! DEFINITION. The stimulus notation (R96, R97): a driver outside the machine that turns a test program's lines into
the inputs of each cycle. The machine itself never reads it. -/

namespace Sys2Proof.Machine

/-- The actions of R96 and the pseudo-actions of R97; expected sets are lists of types. -/
inductive Action where
  | start
  | stop
  | send (p : List Byte) (expect : List Byte)
  | sendp (p : List Byte) (expect : List Byte)
  | rx (bs : List Byte)
  | rxerr
  | txerr
  | txhold (m : Nat)
  | msghold (m : Nat)
  | rxframe (p : List Byte)
  | rxbad (p : List Byte)
  | sendack
  | sendlen (n : Byte)
deriving DecidableEq, Repr

/-- `@k action` (R96). -/
structure Line where
  cycle : Nat
  act : Action
deriving DecidableEq, Repr

/-- A command on offer: `cmd_head`, `cmd_len`, `cmd_payload`, `cmd_expect`. -/
structure Offer where
  head : Bool
  len : Byte
  payload : Lanes
  expect : TypeSet
deriving DecidableEq, Repr

/-- The set of the listed types. -/
def typeSet (ts : List Byte) : TypeSet := ts.foldr (fun t e => e ||| (1#256 <<< t.toNat)) 0

/-- The command that `send` or `sendp` offers (R96). -/
def offerOf (head : Bool) (p expect : List Byte) : Offer where
  head := head
  len := BitVec.ofNat 8 p.length
  payload := bytesToLanes p
  expect := typeSet expect

/-- The TxMsg of a payload with no expected reply. -/
def plainMsg (p : List Byte) : TxMsg := { n := BitVec.ofNat 8 p.length, p := p, e := 0 }

/-- Exclusive-or of 0x01 into the last byte (R97, `rxbad`). -/
def spoilLast (bs : List Byte) : List Byte := bs.dropLast ++ (bs.getLast?.map (· ^^^ 0x01)).toList

/-- The bytes a line makes the transport offer, if it is a receive line (R96, R97). -/
def Action.rxBytes (alg : ChecksumAlg) : Action → Option (List Byte)
  | .rx bs => some bs
  | .rxframe p => some (encodeFrame alg (plainMsg p))
  | .rxbad p => some (spoilLast (encodeFrame alg (plainMsg p)))
  | _ => none

/-- The command a line makes the host offer, if it is a command line (R96, R97). -/
def Action.offer : Action → Option Offer
  | .send p e => some (offerOf false p e)
  | .sendp p e => some (offerOf true p e)
  | .sendack => some (offerOf true [ackType] [])
  | .sendlen n => some { head := false, len := n, payload := 0, expect := 0 }
  | _ => none

/-- A started action among actions in the order of their cycles, before those of its own cycle. -/
def insertByCycle {α : Type} (x : Nat × α) : List (Nat × α) → List (Nat × α)
  | [] => [x]
  | y :: ys => if x.1 ≤ y.1 then x :: y :: ys else y :: insertByCycle x ys

/-- Actions in the order of their cycles, those of one cycle in the order they are written. A line starts at its cycle
wherever it stands in the program (R96). -/
def orderByCycle {α : Type} : List (Nat × α) → List (Nat × α)
  | [] => []
  | x :: xs => insertByCycle x (orderByCycle xs)

/-- The driver between two cycles: the number of the coming cycle, the lines, and what the receive and command lines
have still to deliver, earliest cycle first. A line whose cycle comes while another of its kind is still delivering
waits for it; lines of one cycle are served in the order they are written (log 14). -/
structure Driver where
  now : Nat
  lines : List Line
  rxLeft : List (Nat × List Byte)
  cmdLeft : List (Nat × Offer)
deriving DecidableEq, Repr

/-- The driver before cycle 0; a receive line of no bytes offers nothing. -/
def Driver.init (alg : ChecksumAlg) (lines : List Line) : Driver where
  now := 0
  lines := lines
  rxLeft := orderByCycle
    ((lines.filterMap fun l => (l.act.rxBytes alg).map fun bs => (l.cycle, bs)).filter fun x => !x.2.isEmpty)
  cmdLeft := orderByCycle (lines.filterMap fun l => l.act.offer.map fun o => (l.cycle, o))

/-- The byte on offer: the first undelivered byte of the earliest receive line, once its cycle has come. -/
def Driver.rxOffer (d : Driver) : Option Byte :=
  match d.rxLeft with
  | (k, b :: _) :: _ => if k ≤ d.now then some b else none
  | _ => none

/-- The command on offer: that of the earliest undelivered command line, once its cycle has come. -/
def Driver.cmdOffer (d : Driver) : Option Offer :=
  match d.cmdLeft with
  | (k, o) :: _ => if k ≤ d.now then some o else none
  | [] => none

/-- Some line drives `a` in this cycle. -/
def Driver.drives (d : Driver) (a : Action) : Bool := d.lines.any fun l => l.cycle == d.now && decide (l.act = a)

/-- A hold line (`txhold`, `msghold`) covers this cycle. -/
def Driver.holds (d : Driver) (span : Action → Nat) : Bool :=
  d.lines.any fun l => decide (l.cycle ≤ d.now) && decide (d.now < l.cycle + span l.act)

/-- The cycles a `txhold` line covers. -/
def Action.txSpan : Action → Nat
  | .txhold m => m
  | _ => 0

/-- The cycles a `msghold` line covers. -/
def Action.msgSpan : Action → Nat
  | .msghold m => m
  | _ => 0

/-- The inputs of this cycle (R96). -/
def Driver.inputs (d : Driver) : Inputs where
  rst := false
  rxValid := d.rxOffer.isSome
  rxData := d.rxOffer.getD 0
  rxError := d.drives .rxerr
  txReady := !d.holds Action.txSpan
  txError := d.drives .txerr
  cmdValid := d.cmdOffer.isSome
  cmdHead := (d.cmdOffer.map Offer.head).getD false
  cmdLen := (d.cmdOffer.map Offer.len).getD 0
  cmdPayload := (d.cmdOffer.map Offer.payload).getD 0
  cmdExpect := (d.cmdOffer.map Offer.expect).getD 0
  msgReady := !d.holds Action.msgSpan
  ctrlStart := d.drives .start
  ctrlStop := d.drives .stop

/-- The receive lines with their first byte delivered. -/
def dropFirstByte : List (Nat × List Byte) → List (Nat × List Byte)
  | (k, _ :: b :: bs) :: rest => (k, b :: bs) :: rest
  | _ :: rest => rest
  | [] => []

/-- The driver after a cycle that began in `s` with the inputs of `d` at the head of its stimulus. -/
def Driver.next (d : Driver) (s : State) : Driver where
  now := d.now + 1
  lines := d.lines
  rxLeft := if (rxTransfer s).isSome then dropFirstByte d.rxLeft else d.rxLeft
  cmdLeft := if (cmdTransfer s).isSome then d.cmdLeft.tail else d.cmdLeft

/-- `n` cycles of a test program (R96); none where a step does not answer a next state. -/
def runDriven : Nat → Driver → State → Option (Driver × State)
  | 0, d, s => some (d, s)
  | n + 1, d, s =>
    match step { s with stim := .single d.inputs } with
    | .next t => runDriven n (d.next { s with stim := .single d.inputs }) t
    | .fault _ => none
    | .refused _ => none

end Sys2Proof.Machine
end

