-- ==== Sys2Proof/Machine/RunEnd.lean ====
section
/-! DEFINITION. The end of a run (R299), for the inputs that State holds and for a test program's driver. -/

namespace Sys2Proof.Machine

/-- The inputs of a cycle that no stimulus line drives (R96); the data of a port whose valid is 0 do not count. -/
def Inputs.undriven (x : Inputs) : Bool :=
  !x.rst && !x.rxValid && !x.rxError && x.txReady && !x.txError && !x.cmdValid && x.msgReady && !x.ctrlStart
    && !x.ctrlStop

/-- The first kind of end: DEAD or STOPPED at the start of the cycle. -/
def ended (s : State) : Bool := s.arbState.halted

/-- What the second kind of end asks of the registers: WAIT or OFF, HUNT, nothing queued, no skip, no reply expected. -/
def quiescent (s : State) : Bool :=
  (decide (s.arbState = .wait) || decide (s.arbState = .off)) && decide (s.decState = .hunt) && s.queue.isEmpty
    && !s.arbSkip && decide (s.arbExpect = 0)

/-- The stimulus of a state is over: no coming cycle is driven. -/
def stimulusSpent (s : State) : Bool := s.stim.first.all Inputs.undriven && s.stim.loop.all Inputs.undriven

/-- A cycle at whose start a run has ended, for the inputs that the state holds. -/
def runEnded (s : State) : Bool := ended s || (stimulusSpent s && quiescent s)

/-- How many cycles a line drives from its own cycle on, what it holds until a transfer (`Driver.offering`) apart. -/
def Action.span (a : Action) : Nat := max 1 (max a.txSpan a.msgSpan)

/-- The coming cycle is after the last stimulus: every line has been started, and every hold is over. -/
def Driver.afterLast (d : Driver) : Bool := d.lines.all fun l => decide (l.cycle + l.act.span ≤ d.now)

/-- Some line has a byte or a command still to deliver. -/
def Driver.offering (d : Driver) : Bool := !d.rxLeft.isEmpty || !d.cmdLeft.isEmpty

/-- A cycle at whose start a run of a test program has ended. -/
def Driver.runEnded (d : Driver) (s : State) : Bool :=
  ended s || (d.afterLast && !d.offering && quiescent s)

/-- The end of the run: the first such cycle within the next `n` cycles, its number and its state; none where there is
none, or where a step does not answer a next state. -/
def endOfRun : Nat → Driver → State → Option (Nat × State)
  | 0, d, s => if d.runEnded s = true then some (d.now, s) else none
  | n + 1, d, s =>
    if d.runEnded s = true then some (d.now, s)
    else
      match step { s with stim := .single d.inputs } with
      | .next t => endOfRun n (d.next { s with stim := .single d.inputs }) t
      | .fault _ => none
      | .refused _ => none

end Sys2Proof.Machine
end

