-- ==== Sys2Proof/Machine/Stream.lean ====
section
/-! DEFINITION. DECODE_STREAM (R126): the messages that the decoder's own operations assemble from a byte sequence. -/

namespace Sys2Proof.Machine

/-- What the decoder table reads when the byte `b` is received by a running decoder with no error and no kill. -/
def streamKey (b : Byte) (s : State) : DecoderKey :=
  { decoderKeyOf s with
    arbState := .wait, ctrlStop := false, txError := false, rxError := false, rxValid := true, b := b }

/-- One byte (R126): the operation R113 to R121 that the decoder table selects; at a DEC.COMPLETE the held message is
collected and the decoder returns to HUNT, as at a hand-off. -/
def streamByte (b : Byte) (s : State) : State × List RxMsg :=
  match exec (selectDecoder (streamKey b s)) s with
  | .next t => if t.decState = .offer then (t.setDecState .hunt, [heldMessage t]) else (t, [])
  | .fault _ => (s, [])
  | .refused _ => (s, [])

/-- The messages collected from a byte sequence, from the decoder registers of `s`. -/
def streamFrom : State → List Byte → List RxMsg
  | _, [] => []
  | s, b :: bs => (streamByte b s).2 ++ streamFrom (streamByte b s).1 bs

/-- The decoder in HUNT with `dec_esc = 0`, for the given checksum algorithm. -/
def streamStart (alg : ChecksumAlg) : State :=
  { State.reset with cfg := { Params.default with checksumAlg := alg }, arbState := .wait }

/-- DECODE_STREAM (R126). -/
def decodeStream (alg : ChecksumAlg) (bs : List Byte) : List RxMsg := streamFrom (streamStart alg) bs

end Sys2Proof.Machine
end

