-- ==== Sys2Proof/Safety.lean ====
section
/-! DEFINITION. What the statements speak of: runs and what is transferred in them, the invariants of the reachable
states, and agreement of two states on everything written (R44). -/

namespace Sys2Proof.Machine

/-- `n` clock cycles take `s` to `t`, each answering a next state. -/
def RunsTo (n : Nat) (s t : State) : Prop := Host.Core.run Sys2Proof.core n s = .next t

/-- The inputs of the cycle `i` cycles from now (log 2). -/
def inputAt (s : State) (i : Nat) : Inputs := (s.stim.drop i).now

/-- Neither reset, stop nor a transmit failure in the coming `n` cycles. -/
def Undisturbed (n : Nat) (s : State) : Prop :=
  ∀ i, i < n → (inputAt s i).rst = false ∧ (inputAt s i).ctrlStop = false ∧ (inputAt s i).txError = false

/-- Neither reset, stop, a command nor a received byte in the coming `n` cycles. -/
abbrev NothingOffered (n : Nat) (s : State) : Prop :=
  ∀ i, i < n → (inputAt s i).rst = false ∧ (inputAt s i).ctrlStop = false ∧ (inputAt s i).cmdValid = false ∧
    (inputAt s i).rxValid = false

/-- The transport accepts a byte and reports no transmit failure in each of the coming `n` cycles. -/
abbrev TransportAccepts (n : Nat) (s : State) : Prop :=
  ∀ i, i < n → (inputAt s i).txReady = true ∧ (inputAt s i).txError = false

/-- No byte, command or message is transferred on any port in this cycle (R90). -/
abbrev NothingTransferred (s : State) : Prop :=
  rxTransfer s = none ∧ txTransfer s = none ∧ cmdTransfer s = none ∧ msgTransfer s = none

/-- A cycle in which the decoder acts: no reset, the link runs, and no `kill` (R94). -/
abbrev Live (s : State) : Prop :=
  (inputsNow s).rst = false ∧ s.arbState.running = true ∧ (inputsNow s).ctrlStop = false ∧
  (s.arbState = .tx → (inputsNow s).txError = false)

/-- A cycle in which a decoder not in OFFER receives the byte `b` (R94). -/
abbrev Receives (b : Byte) (s : State) : Prop :=
  Live s ∧ (inputsNow s).rxError = false ∧ (inputsNow s).rxValid = true ∧ (inputsNow s).rxData = b

/-- A cycle with neither reset nor stop, in which the arbiter acts as its state says (R94, R265). -/
abbrev Acts (s : State) : Prop := (inputsNow s).rst = false ∧ (inputsNow s).ctrlStop = false

/-- A cycle in which a command is transferred on a ready port (R90, R220). -/
abbrev Commands (s : State) : Prop :=
  (inputsNow s).rst = false ∧ (inputsNow s).cmdValid = true ∧ s.arbState ≠ .dead ∧ s.arbState ≠ .stopped ∧
  s.queue.length + 2 < s.cfg.txqDepth

/-- In how many of the coming `n` cycles the transport is ready to accept a byte. -/
def readyCount (s : State) : Nat → Nat
  | 0 => 0
  | n + 1 => readyCount s n + (if (inputAt s n).txReady = true then 1 else 0)

/-- The bytes the transmit port carries in the coming `n` cycles, in order (R90, R166). -/
def txTrace : Nat → State → List Byte
  | 0, _ => []
  | n + 1, s =>
    match step s with
    | .next t => (txTransfer s).toList ++ txTrace n t
    | .fault _ => []
    | .refused _ => []

/-- What R111, R24, R26, R27 and R30 say of the decoder's registers; the decoder is in HUNT while the link does not
run (R110). -/
abbrev DecoderInv (s : State) : Prop :=
  (s.arbState.running = false → s.decState = .hunt) ∧
  (s.decEsc = true → s.decState = .body ∧ s.decIdx.toNat + 2 < s.decLen.toNat) ∧
  (s.decState = .body → 3 ≤ s.decLen.toNat ∧ s.decIdx.toNat < s.decLen.toNat ∧
    s.decIdx.toNat ≤ s.decBuf.length) ∧
  (s.decState = .offer → 3 ≤ s.decLen.toNat ∧ s.decIdx = s.decLen ∧ s.decLen.toNat ≤ s.decBuf.length ∧
    s.decTimer < s.cfg.tHandoff) ∧
  s.decBuf.length ≤ 255

/-- What R31 to R36 and R61 say of the arbiter's registers: ranges, well-formed messages, the expected set of the
link cycle, and which states hold a received message. -/
abbrev ArbiterInv (s : State) : Prop :=
  (s.arbState = .tx → s.cur.wf = true ∧ s.txPos.toNat < (curFrame s).length ∧ s.arbExpect = s.cur.e) ∧
  (s.arbState = .wait → s.arbTimer < s.cfg.tReply) ∧
  ((s.arbState = .wait ∨ s.arbState = .classify) → s.arbExpect ≠ 0 →
    s.cur.wf = true ∧ s.arbExpect = s.cur.e) ∧
  (s.arbState = .classify → s.rxPresent = true → s.rx.wf = true) ∧
  (s.arbState = .dispatch → s.rxPresent = true ∧ s.rx.wf = true ∧ s.rx.ok = true) ∧
  (s.arbSkip = true → s.arbState = .select ∨ s.arbState = .dispatch ∨ s.arbState = .stopped)

/-- Every queued message can be framed (R20, R61). -/
abbrev QueueInv (s : State) : Prop := ∀ m ∈ s.queue, m.wf = true

/-- The ranges and shapes that hold in every reachable state (R61, R111). -/
abbrev LinkInv (s : State) : Prop :=
  s.cfg.wf = true ∧ DecoderInv s ∧ ArbiterInv s ∧ QueueInv s

/-- The bytes of the frame in TX that have been transferred after this cycle, where `sent` were before it. -/
def sentAfter (sent : List Byte) (s : State) : List Byte :=
  if s.arbState = .tx then sent ++ (txTransfer s).toList else []

/-- In TX, the bytes `sent` so far are the first `tx_pos` bytes of `ENCODE(cur)` (R34, R166). -/
abbrev SendInv (sent : List Byte) (s : State) : Prop :=
  LinkInv s ∧ (s.arbState = .tx → sent = (curFrame s).take s.txPos.toNat)

/-- The count invariant behind R227, state by state of a link cycle: `q_count` never exceeds TXQ_DEPTH, and wherever
CLASSIFY may still push, an entry is free for the push. -/
abbrev CapacityInv (s : State) : Prop :=
  3 ≤ s.cfg.txqDepth ∧
  s.queue.length ≤ s.cfg.txqDepth ∧
  (s.arbState = .off → s.queue.length + 2 ≤ s.cfg.txqDepth ∧ s.arbSkip = false) ∧
  ((s.arbState = .select ∨ s.arbState = .dispatch) →
    (s.queue.length = s.cfg.txqDepth → ∀ m ∈ s.queue.head?, m.e = 0) ∧
    (s.arbSkip = true → s.queue.length + 1 ≤ s.cfg.txqDepth)) ∧
  ((s.arbState = .tx ∨ s.arbState = .wait ∨ s.arbState = .classify) →
    s.arbSkip = false ∧ s.queue.length + 1 ≤ s.cfg.txqDepth ∧
    (s.arbExpect ≠ 0 → s.queue.length + 2 ≤ s.cfg.txqDepth))

/-- Which registers of R44 have been written in which states: "`dec_*` are written on the way into BODY and OFFER
before they are read there; `cur` is written by the SELECT that enters TX ...; `rx` is written when WAIT ends". -/
abbrev WrittenInv (s : State) : Prop :=
  (s.decState = .body → s.written.decLen = true ∧ s.written.decIdx = true) ∧
  (s.decState = .offer → s.written.decLen = true ∧ s.written.decIdx = true ∧ s.written.decOk = true ∧
    s.written.decTimer = true) ∧
  (s.arbState = .tx → s.written.cur = true ∧ s.written.txPos = true) ∧
  (s.arbState = .wait → s.written.arbTimer = true) ∧
  (s.arbExpect ≠ 0 → s.written.cur = true) ∧
  (s.rxPresent = true → s.written.rx = true) ∧
  (s.arbState = .dispatch → s.rxPresent = true)

/-- Two states agree on everything but the contents of unwritten registers (R44): the registers with a reset value,
the unwritten status itself, and each register of R44 that is written. -/
abbrev Agree (s t : State) : Prop :=
  s.cfg = t.cfg ∧ s.stim = t.stim ∧ s.arbState = t.arbState ∧ s.decState = t.decState ∧ s.decEsc = t.decEsc ∧
  s.decBuf = t.decBuf ∧ s.arbSkip = t.arbSkip ∧ s.arbExpect = t.arbExpect ∧ s.rxPresent = t.rxPresent ∧
  s.queue = t.queue ∧ s.txqOvf = t.txqOvf ∧ s.ev = t.ev ∧ s.written = t.written ∧ s.ret = t.ret ∧
  (s.written.decLen = true → s.decLen = t.decLen) ∧
  (s.written.decIdx = true → s.decIdx = t.decIdx) ∧
  (s.written.decOk = true → s.decOk = t.decOk) ∧
  (s.written.decTimer = true → s.decTimer = t.decTimer) ∧
  (s.written.cur = true → s.cur = t.cur) ∧
  (s.written.txPos = true → s.txPos = t.txPos) ∧
  (s.written.arbTimer = true → s.arbTimer = t.arbTimer) ∧
  (s.written.rx = true → s.rx = t.rx)

/-- What the outside can tell of a state in a cycle (R41, R271): the outputs, of the dispatch data only while
`msg_valid` is 1. -/
def visible (s : State) : Outputs :=
  if msgValid s = true then outputs s
  else { outputs s with msgLen := 0, msgType := 0, msgPayload := 0 }

end Sys2Proof.Machine
end

