-- ==== Sys2Proof/Certificates/Slice0/Obligations.lean ====
section
/-! DEFINITION. The statements for the provers, in the order of OBLIGATIONS.json. Each docstring names the rules of
spec/ it formalises. A statement about one operation says when the operation map selects it and the whole state the
operation leaves: what the record update does not name is unchanged. -/

open Sys2Proof Sys2Proof.Machine

/-! ## The step and the operation map -/

/-- R5, R15, R16, R66, R94: with `rst = 0`, the step runs the operations that the cycle's operation words decode to,
each put to the state with the events cleared (R39) and the cycle's inputs used up; an operation that dequeues runs
before the host's, every other arbiter operation after it (R66). That the operations run one after the other, the
decoder's last, is the model's own reading (log 3, DEDUCED): R15 says that all writes of a cycle take effect together. -/
def Obligations.StepRunsDecodedOperations : Prop :=
  ∀ (s : State) (d a : Instr), (inputsNow s).rst = false →
    decode (.decoder (decoderKeyOf s)) = .op d → decode (.arbiter (arbiterKeyOf s)) = .op a →
    (∀ c, decode (.command (commandKeyOf s)) = .op c →
      step s = runOps (if a = .arbSelectSend then [a, c, d] else [c, a, d]) (beginCycle s)) ∧
    (∀ why, decode (.command (commandKeyOf s)) = .rejected why → step s = runOps [a, d] (beginCycle s))

/-- Log 8 (the model's placing of a word): the instruction that a row's bits decode to is the one that the first step
after reset runs, whatever the bits. -/
def Obligations.PlacedWordRunsFirst : Prop :=
  ∀ (nbits w : Nat) (i : Instr), decodeTableWord nbits w = some i →
    step (State.reset.withFetchWord nbits w) = exec i (beginCycle (State.reset.withFetchWord nbits w))

/-- R94, R95: some words of the operation map and the operations they select. The two clauses on bare table words rest
on the model's choice of log 8: in which decoder state a bare byte is read, and the operands that a command's bits do
not give. -/
def Obligations.SampleWordsDecode : Prop :=
  decode (.decoder (receiveKey .hunt 0x7E)) = .op .decSync ∧
  decode (.decoder (receiveKey .len 0x02)) = .op (.decLenBad 0x02) ∧
  decode (.decoder (receiveKey .body 0x7D)) = .op .decEsc ∧
  decode (.command (commandKey true 1 0x23 0)) = .op (.qSendPriority 1 0x23 0) ∧
  decode (.arbiter { quietArbiterKey .tx with txError := true, txReady := true }) = .op .txError ∧
  decodeTableWord 8 0x7E = some .decSync ∧
  decodeTableWord 16 0x1FE = some (.qCmdBad true 0xFE 0 0)

/-- R94: decode and encode agree on every operation, with every operand its encoding admits. -/
def Obligations.DecodeOfEncode : Prop :=
  ∀ i : Instr, i.wellFormed = true → decode (encode i) = .op i

/-- R94, R220, R224: whatever word is decoded, the operation has operands its encoding admits. -/
def Obligations.DecodedIsWellFormed : Prop :=
  ∀ (w : OpWord) (i : Instr), decode w = .op i → i.wellFormed = true

/-- R94 and the "select" column of opcode_table.json: on a running link with no kill, each decoder operation is
selected exactly under its row's own condition, the earlier rows written out. -/
def Obligations.DecoderRowConditions : Prop :=
  ∀ k : DecoderKey,
    (selectDecoder k = .decDisabled ↔ (k.arbState.running = false ∨ k.kill = true)) ∧
    (k.arbState.running = true → k.kill = false →
      (selectDecoder k = .decHandoff ↔ (k.decState = .offer ∧ k.arbState = .wait)) ∧
      (selectDecoder k = .decDrop ↔ (k.decState = .offer ∧ k.arbState ≠ .wait ∧ k.handoffLast = true)) ∧
      (selectDecoder k = .decOfferHold ↔ (k.decState = .offer ∧ k.arbState ≠ .wait ∧ k.handoffLast = false)) ∧
      (selectDecoder k = .decAbort ↔ (k.rxError = true ∧ (k.decState = .len ∨ k.decState = .body))) ∧
      (selectDecoder k = .decIdle ↔
        (k.decState ≠ .offer ∧ ((k.rxError = true ∧ k.decState = .hunt) ∨ (k.rxError = false ∧ k.rxValid = false)))) ∧
      (k.rxError = false → k.rxValid = true →
        (selectDecoder k = .decSync ↔ (k.decState = .hunt ∧ k.b = 0x7E)) ∧
        (selectDecoder k = .decHuntSkip k.b ↔ (k.decState = .hunt ∧ k.b ≠ 0x7E)) ∧
        (selectDecoder k = .decLenOk k.b ↔ (k.decState = .len ∧ 3 ≤ k.b.toNat)) ∧
        (selectDecoder k = .decLenBad k.b ↔ (k.decState = .len ∧ k.b.toNat < 3)) ∧
        (selectDecoder k = .decUnstuff k.b ↔ (k.decState = .body ∧ k.decEsc = true)) ∧
        (selectDecoder k = .decEsc ↔
          (k.decState = .body ∧ k.decEsc = false ∧ k.decIdx.toNat + 2 < k.decLen.toNat ∧ k.b = 0x7D)) ∧
        (selectDecoder k = .decData k.b ↔
          (k.decState = .body ∧ k.decEsc = false ∧ k.decIdx.toNat + 2 < k.decLen.toNat ∧ k.b ≠ 0x7D)) ∧
        (selectDecoder k = .decTrailer k.b ↔
          (k.decState = .body ∧ k.decEsc = false ∧ k.decIdx.toNat + 2 = k.decLen.toNat)) ∧
        (selectDecoder k = .decComplete k.b ↔
          (k.decState = .body ∧ k.decEsc = false ∧ k.decLen.toNat < k.decIdx.toNat + 2))))

/-! ## The decoder's operations -/

/-- R110, R112, R113: DEC.DISABLED outside the running states or under a kill; DEC.IDLE; DEC.HUNT_SKIP. -/
def Obligations.DecoderDisabledIdleSkip : Prop :=
  (∀ s : State, (inputsNow s).rst = false → s.arbState.running = false →
    decoderOp s = .decDisabled ∧ exec .decDisabled s = .next { s with decState := .hunt, decEsc := false }) ∧
  (∀ s : State, (inputsNow s).rst = false → s.arbState.running = true →
    ((inputsNow s).ctrlStop = true ∨ (s.arbState = .tx ∧ (inputsNow s).txError = true)) →
    decoderOp s = .decDisabled ∧ exec .decDisabled s = .next { s with decState := .hunt, decEsc := false }) ∧
  (∀ s : State, Live s → s.decState ≠ .offer → (inputsNow s).rxError = false → (inputsNow s).rxValid = false →
    decoderOp s = .decIdle ∧ exec .decIdle s = .next s) ∧
  (∀ s : State, Live s → s.decState = .hunt → (inputsNow s).rxError = true →
    decoderOp s = .decIdle ∧ exec .decIdle s = .next s) ∧
  (∀ (s : State) (b : Byte), Receives b s → s.decState = .hunt → b ≠ 0x7E →
    decoderOp s = .decHuntSkip b ∧ exec (.decHuntSkip b) s = .next s)

/-- R114, R115, R116: the start byte and the length byte. -/
def Obligations.DecoderStartAndLength : Prop :=
  (∀ s : State, Receives 0x7E s → s.decState = .hunt →
    decoderOp s = .decSync ∧ exec .decSync s = .next { s with decState := .len }) ∧
  (∀ (s : State) (b : Byte), Receives b s → s.decState = .len → 3 ≤ b.toNat →
    decoderOp s = .decLenOk b ∧ exec (.decLenOk b) s = .next { s with
      decLen := b, decIdx := 0, decEsc := false, decState := .body,
      written := { s.written with decLen := true, decIdx := true } }) ∧
  (∀ (s : State) (b : Byte), Receives b s → s.decState = .len → b.toNat < 3 →
    decoderOp s = .decLenBad b ∧ exec (.decLenBad b) s = .next { s with
      decState := .hunt, ev := s.ev ||| 0x0002 })

/-- R117, R118, R119, R120: a byte of the body stores, escapes, de-stuffs or is the low checksum byte. -/
def Obligations.DecoderBodyBytes : Prop :=
  (∀ (s : State) (b : Byte), Receives b s → s.decState = .body → s.decEsc = false →
    s.decIdx.toNat + 2 < s.decLen.toNat → b ≠ 0x7D →
    decoderOp s = .decData b ∧ exec (.decData b) s = .next { s with
      decBuf := arrayWrite s.decBuf s.decIdx.toNat b, decIdx := s.decIdx + 1,
      written := { s.written with decIdx := true } }) ∧
  (∀ s : State, Receives 0x7D s → s.decState = .body → s.decEsc = false →
    s.decIdx.toNat + 2 < s.decLen.toNat →
    decoderOp s = .decEsc ∧ exec .decEsc s = .next { s with decEsc := true }) ∧
  (∀ (s : State) (b : Byte), Receives b s → s.decState = .body → s.decEsc = true →
    decoderOp s = .decUnstuff b ∧ exec (.decUnstuff b) s = .next { s with
      decBuf := arrayWrite s.decBuf s.decIdx.toNat (b ||| 0x20), decIdx := s.decIdx + 1, decEsc := false,
      written := { s.written with decIdx := true } }) ∧
  (∀ (s : State) (b : Byte), Receives b s → s.decState = .body → s.decEsc = false →
    s.decIdx.toNat + 2 = s.decLen.toNat →
    decoderOp s = .decTrailer b ∧ exec (.decTrailer b) s = .next { s with
      decBuf := arrayWrite s.decBuf s.decIdx.toNat b, decIdx := s.decIdx + 1,
      written := { s.written with decIdx := true } })

/-- R15, R28: a write of one element of an internal array is read back at its index, and no other element changes. -/
def Obligations.ArrayReadAfterWrite : Prop :=
  ∀ (buf : List Byte) (i j : Nat) (b : Byte),
    arrayAt (arrayWrite buf i b) i = b ∧ (j ≠ i → arrayAt (arrayWrite buf i b) j = arrayAt buf j)

/-- R121: the last byte of a frame stores the high checksum byte, takes the verdict and offers the message. -/
def Obligations.DecoderCompletesFrame : Prop :=
  ∀ (s : State) (b : Byte), Receives b s → s.decState = .body → s.decEsc = false →
    s.decIdx.toNat + 1 = s.decLen.toNat →
    decoderOp s = .decComplete b ∧ exec (.decComplete b) s = .next { s with
      decBuf := arrayWrite s.decBuf (s.decLen.toNat - 1) b, decIdx := s.decLen,
      decOk := checksum s.cfg.checksumAlg (arrayRead s.decBuf (s.decLen.toNat - 2)) ==
        (b ++ arrayAt s.decBuf (s.decLen.toNat - 2)),
      decTimer := 0, decState := .offer, ev := s.ev ||| 0x0004,
      written := { s.written with decIdx := true, decOk := true, decTimer := true } }

/-- R122: a read error in LEN or BODY abandons the frame, whatever byte is received with it. -/
def Obligations.DecoderAbortsOnReadError : Prop :=
  ∀ s : State, Live s → (s.decState = .len ∨ s.decState = .body) → (inputsNow s).rxError = true →
    decoderOp s = .decAbort ∧ exec .decAbort s = .next { s with
      decState := .hunt, decEsc := false, ev := s.ev ||| 0x0001 }

/-- R123, R124, R125: the three operations of OFFER; the hand-off goes before the drop. -/
def Obligations.DecoderAtTheHandoff : Prop :=
  (∀ s : State, Live s → s.decState = .offer → s.arbState ≠ .wait → s.decTimer + 1 < s.cfg.tHandoff →
    decoderOp s = .decOfferHold ∧ exec .decOfferHold s = .next { s with
      decTimer := s.decTimer + 1, written := { s.written with decTimer := true } }) ∧
  (∀ s : State, Live s → s.decState = .offer → s.arbState = .wait →
    decoderOp s = .decHandoff ∧ exec .decHandoff s = .next { s with
      decState := .hunt, ev := s.ev ||| 0x0010 }) ∧
  (∀ s : State, Live s → s.decState = .offer → s.arbState ≠ .wait → s.decTimer + 1 = s.cfg.tHandoff →
    decoderOp s = .decDrop ∧ exec .decDrop s = .next { s with
      decState := .hunt, ev := s.ev ||| 0x0008 })

/-! ## The checksum unit, the encoder and the transmitter -/

/-- R140, R141, R145, R160, R161: the functions of the checksum unit and the encoder write no register; the model
leaves their value in its own field `ret` (log 6). -/
def Obligations.FunctionOperationsReturn : Prop :=
  ∀ (s : State) (p : List Byte) (lo hi b : Byte) (m : TxMsg),
    exec (.csumCompute p) s = .next { s with ret := .word (checksum s.cfg.checksumAlg p) } ∧
    exec (.csumCheck p lo hi) s = .next { s with
      ret := .bit (decide ((checksum s.cfg.checksumAlg p).toNat = hi.toNat * 256 + lo.toNat)) } ∧
    exec (.csumGen p) s = .next { s with
      ret := .bytes [BitVec.ofNat 8 ((checksum s.cfg.checksumAlg p).toNat % 256),
        BitVec.ofNat 8 ((checksum s.cfg.checksumAlg p).toNat / 256)] } ∧
    exec (.encFrame m) s = .next { s with
      ret := .bytes ([0x7E, m.n + 2] ++ (m.p.map fun c => if c = 0x7D then [0x7D, 0x5D] else [c]).flatten ++
        [BitVec.ofNat 8 ((checksum s.cfg.checksumAlg m.p).toNat % 256),
         BitVec.ofNat 8 ((checksum s.cfg.checksumAlg m.p).toNat / 256)]) } ∧
    exec (.encStuff b) s = .next { s with ret := .bytes (if b = 0x7D then [0x7D, 0x5D] else [b]) }

/-- R142: FLETCHER16 in closed form, `s1` the sum of the bytes and `s2` the weighted sum, both modulo 255, so neither
trailer byte is 0xFF. -/
def Obligations.FletcherClosedForm : Prop :=
  ∀ p : List Byte,
    (fletcher16 p).toNat =
      ((p.zipIdx.map fun x => (p.length - x.2) * x.1.toNat).sum % 255) * 256 + ((p.map BitVec.toNat).sum % 255) ∧
    checksumLow (fletcher16 p) ≠ 0xFF ∧ checksumHigh (fletcher16 p) ≠ 0xFF

/-- R143: CRC16_CCITT starts at 0xFFFF, takes the payload bytes in order and each byte's bits most significant first;
every 16-bit value occurs. -/
def Obligations.CrcBitByBit : Prop :=
  crc16Ccitt [] = 0xFFFF ∧
  (∀ (p : List Byte) (b : Byte), crc16Ccitt (p ++ [b]) =
    Nat.iterate (fun c : Checksum => if c.getLsbD 15 = true then (c <<< 1) ^^^ 0x1021 else c <<< 1) 8
      (crc16Ccitt p ^^^ (b.setWidth 16 <<< 8))) ∧
  (∀ c : Checksum, ∃ a b : Byte, crc16Ccitt [a, b] = c) ∧
  crc16Ccitt [0x31, 0x32, 0x33, 0x34, 0x35, 0x36, 0x37, 0x38, 0x39] = 0x29B1 ∧
  crc16Ccitt [0x1D] = 0x226C

/-- R144: under either algorithm, inverting one bit of one payload byte changes the checksum, so the trailer of the
payload fails the check on the changed one. -/
def Obligations.SingleBitErrorDetected : Prop :=
  ∀ (alg : ChecksumAlg) (u v : List Byte) (b : Byte) (k : Nat), k < 8 →
    checksum alg (u ++ (b ^^^ (1#8 <<< k)) :: v) ≠ checksum alg (u ++ b :: v) ∧
    checkTrailer alg (u ++ (b ^^^ (1#8 <<< k)) :: v) (checksumLow (checksum alg (u ++ b :: v)))
      (checksumHigh (checksum alg (u ++ b :: v))) = false

/-- R13, R88, R160: a frame has `4 + n + k` bytes, `k` the number of payload bytes equal to 0x7D, so 5 to 510. -/
def Obligations.FrameLength : Prop :=
  ∀ (alg : ChecksumAlg) (m : TxMsg), m.wf = true →
    (encodeFrame alg m).length = 4 + m.n.toNat + m.p.countP (· == 0x7D) ∧
    5 ≤ (encodeFrame alg m).length ∧ (encodeFrame alg m).length ≤ 510

/-- R167: the ACK frame under either algorithm. -/
def Obligations.AckFrameBytes : Prop :=
  encodeFrame .fletcher16 ackMsg = [0x7E, 0x03, 0x1D, 0x1D, 0x1D] ∧
  encodeFrame .crc16Ccitt ackMsg = [0x7E, 0x03, 0x1D, 0x6C, 0x22]

/-- R127: encoding and then decoding gives the payload back with a good checksum, for every payload, also behind
noise that holds no start byte. -/
def Obligations.FrameRoundTrip : Prop :=
  ∀ (alg : ChecksumAlg) (m : TxMsg) (g : List Byte), m.wf = true → (∀ b ∈ g, b ≠ 0x7E) →
    decodeStream alg (g ++ encodeFrame alg m) = [{ n := m.n, p := m.p, ok := true }]

/-- R65, R124, R126, R127, R184: a whole frame offered byte by byte to a link in WAIT, with time left in the wait and
neither reset, stop nor a command, is in the received-message register one cycle after its last byte, with the payload
that was encoded and a good checksum, whatever the decoder's registers held before and whatever comes after. -/
def Obligations.ReceivedFrameReachesArbiter : Prop :=
  ∀ (s : State) (m : TxMsg), m.wf = true → s.arbState = .wait → s.decState = .hunt →
    s.arbTimer + (encodeFrame s.cfg.checksumAlg m).length < s.cfg.tReply →
    (∀ i, i < (encodeFrame s.cfg.checksumAlg m).length + 1 →
      (inputAt s i).rst = false ∧ (inputAt s i).ctrlStop = false ∧ (inputAt s i).cmdValid = false) →
    (∀ i, i < (encodeFrame s.cfg.checksumAlg m).length →
      (inputAt s i).rxError = false ∧ (inputAt s i).rxValid = true ∧
      (inputAt s i).rxData = (encodeFrame s.cfg.checksumAlg m).getD i 0) →
    ∃ t, RunsTo ((encodeFrame s.cfg.checksumAlg m).length + 1) s t ∧
      t.arbState = .classify ∧ t.decState = .hunt ∧ t.rxPresent = true ∧
      t.rx = { n := m.n, p := m.p, ok := true } ∧ t.queue = s.queue ∧ t.ev = 0x0010

/-- R162, R163, R164: a byte accepted, the last byte accepted, a stall. -/
def Obligations.TransmitterSends : Prop :=
  (∀ s : State, Acts s → s.arbState = .tx → (inputsNow s).txError = false → (inputsNow s).txReady = true →
    s.txPos.toNat + 1 < (encodeFrame s.cfg.checksumAlg s.cur).length →
    txTransfer s = some ((encodeFrame s.cfg.checksumAlg s.cur).getD s.txPos.toNat 0) ∧
    arbiterOp s = .txByte ∧ exec .txByte s = .next { s with
      txPos := s.txPos + 1, written := { s.written with txPos := true } }) ∧
  (∀ s : State, Acts s → s.arbState = .tx → (inputsNow s).txError = false → (inputsNow s).txReady = true →
    s.txPos.toNat + 1 = (encodeFrame s.cfg.checksumAlg s.cur).length →
    txTransfer s = some ((encodeFrame s.cfg.checksumAlg s.cur).getD s.txPos.toNat 0) ∧
    arbiterOp s = .txLast ∧ exec .txLast s = .next { s with
      arbTimer := 0, arbState := .wait, ev := s.ev ||| 0x0020, written := { s.written with arbTimer := true } }) ∧
  (∀ s : State, Acts s → s.arbState = .tx → (inputsNow s).txError = false → (inputsNow s).txReady = false →
    txTransfer s = none ∧ arbiterOp s = .txStall ∧ exec .txStall s = .next s)

/-- R165, R261: the fatal transition; nothing but `arb_state` and the event changes, whatever `tx_ready` is; a byte
that is ready in the cycle still counts as transferred. -/
def Obligations.TransmitErrorIsFatal : Prop :=
  ∀ s : State, Acts s → s.arbState = .tx → (inputsNow s).txError = true →
    arbiterOp s = .txError ∧ exec .txError s = .next { s with arbState := .dead, ev := s.ev ||| 0x8000 } ∧
    decoderOp s = .decDisabled ∧
    txTransfer s = if (inputsNow s).txReady = true then
      some (txData s) else none

/-- R166: from the first cycle of TX, undisturbed, the transmit port carries the bytes of `ENCODE(cur)` in order, each
once; `cur` stays; the frame's last byte ends TX. -/
def Obligations.FrameIntegrity : Prop :=
  ∀ (n : Nat) (s : State), s.arbState = .tx → s.txPos = 0 → s.cur.wf = true → Undisturbed n s →
    (readyCount s n < (curFrame s).length →
      txTrace n s = (curFrame s).take (readyCount s n) ∧
      ∃ t, RunsTo n s t ∧ t.arbState = .tx ∧ t.cur = s.cur ∧ t.txPos.toNat = readyCount s n) ∧
    (readyCount s (n + 1) = (curFrame s).length → readyCount s n < (curFrame s).length → Undisturbed (n + 1) s →
      txTrace (n + 1) s = curFrame s ∧
      ∃ t, RunsTo (n + 1) s t ∧ t.arbState = .wait ∧ t.arbTimer = 0 ∧ t.ev.getLsbD 5 = true)

/-- R34, R166: in every state of TX that meets the invariant, the bytes transferred since TX was entered are the first
`tx_pos` bytes of `ENCODE(cur)`; every step keeps this, and where TX is left for WAIT the whole frame has been
transferred. -/
def Obligations.StepKeepsSentBytes : Prop :=
  ∀ (sent : List Byte) (s t : State), SendInv sent s → step s = .next t →
    SendInv (sentAfter sent s) t ∧ (s.arbState = .tx → t.arbState = .wait → sentAfter sent s = curFrame s)

/-! ## Control -/

/-- R240, R241, R242, R243: start, stop, the absorbing states, idle. -/
def Obligations.ControlOperations : Prop :=
  (∀ s : State, Acts s → s.arbState = .off → (inputsNow s).ctrlStart = true →
    arbiterOp s = .ctlStart ∧ exec .ctlStart s = .next { s with arbState := .select }) ∧
  (∀ s : State, (inputsNow s).rst = false → s.arbState ≠ .dead → s.arbState ≠ .stopped →
    (inputsNow s).ctrlStop = true →
    arbiterOp s = .ctlStop ∧ exec .ctlStop s = .next { s with arbState := .stopped } ∧
    decoderOp s = .decDisabled) ∧
  (∀ s : State, (inputsNow s).rst = false → (s.arbState = .dead ∨ s.arbState = .stopped) →
    arbiterOp s = .ctlHalted ∧ exec .ctlHalted s = .next s) ∧
  (∀ s : State, Acts s → s.arbState = .off → (inputsNow s).ctrlStart = false →
    arbiterOp s = .ctlIdle ∧ exec .ctlIdle s = .next s)

/-- R241, R265: a stop wins over every condition but reset; its cycle still lets a command in, and leaves every other
register but the decoder's two and the events as they were. -/
def Obligations.StopCycle : Prop :=
  ∀ s : State, (inputsNow s).rst = false → s.arbState ≠ .dead → s.arbState ≠ .stopped →
    (inputsNow s).ctrlStop = true →
    ∃ q e, step s = .next { s with
        arbState := .stopped, decState := .hunt, decEsc := false, queue := q, ev := e, stim := s.stim.next } ∧
      (cmdTransfer s = none → q = s.queue ∧ e = 0) ∧
      (∀ m, cmdTransfer s = some m → m.wf = false → q = s.queue ∧ e = 0x4000) ∧
      (∀ m, cmdTransfer s = some m → m.wf = true →
        e = 0 ∧ q = if (inputsNow s).cmdHead = true then m :: s.queue else s.queue ++ [m])

/-- R242, R244, R263: DEAD and STOPPED are left only by reset. In any number of cycles without reset, whatever the
other inputs, no register but the event register changes (the decoder being in HUNT), no event is raised, and in no
cycle of the run is anything transferred. -/
def Obligations.HaltedIsAbsorbing : Prop :=
  ∀ (n : Nat) (s : State), (s.arbState = .dead ∨ s.arbState = .stopped) → s.decState = .hunt → s.decEsc = false →
    (∀ i, i < n + 1 → (inputAt s i).rst = false) →
    RunsTo (n + 1) s { s with ev := 0, stim := s.stim.drop (n + 1) } ∧
    ∀ (i : Nat) (t : State), i ≤ n + 1 → RunsTo i s t → NothingTransferred t

/-! ## The arbiter's operations -/

/-- R180, R181, R182: the three operations of SELECT. -/
def Obligations.SelectOperations : Prop :=
  (∀ (s : State) (m : TxMsg) (rest : List TxMsg), Acts s → s.arbState = .select → s.arbSkip = false →
    s.queue = m :: rest →
    arbiterOp s = .arbSelectSend ∧ exec .arbSelectSend s = .next { s with
      queue := rest, cur := m, arbExpect := m.e, txPos := 0, arbState := .tx,
      written := { s.written with cur := true, txPos := true } }) ∧
  (∀ s : State, Acts s → s.arbState = .select → s.arbSkip = false → s.queue = [] →
    arbiterOp s = .arbSelectEmpty ∧ exec .arbSelectEmpty s = .next { s with
      arbExpect := 0, arbTimer := 0, arbState := .wait, written := { s.written with arbTimer := true } }) ∧
  (∀ s : State, Acts s → s.arbState = .select → s.arbSkip = true →
    arbiterOp s = .arbSelectSkip ∧ exec .arbSelectSkip s = .next { s with
      arbSkip := false, arbExpect := 0, arbTimer := 0, arbState := .wait,
      written := { s.written with arbTimer := true } })

/-- R183, R184, R185: the three operations of WAIT. -/
def Obligations.WaitOperations : Prop :=
  (∀ s : State, Acts s → s.arbState = .wait → s.decState ≠ .offer → s.arbTimer + 1 < s.cfg.tReply →
    arbiterOp s = .arbWaitTick ∧ exec .arbWaitTick s = .next { s with
      arbTimer := s.arbTimer + 1, written := { s.written with arbTimer := true } }) ∧
  (∀ s : State, Acts s → s.arbState = .wait → s.decState = .offer →
    arbiterOp s = .arbWaitRecv ∧ exec .arbWaitRecv s = .next { s with
      rxPresent := true,
      rx := { n := s.decLen - 2, p := arrayRead s.decBuf (s.decLen.toNat - 2), ok := s.decOk },
      arbState := .classify, written := { s.written with rx := true } }) ∧
  (∀ s : State, Acts s → s.arbState = .wait → s.decState ≠ .offer → s.arbTimer + 1 = s.cfg.tReply →
    arbiterOp s = .arbWaitTimeout ∧ exec .arbWaitTimeout s = .next { s with
      rxPresent := false, arbState := .classify })

/-- R187, R191, R226, R266: an unsolicited message; an owed ACK goes to the head, or overflows a full queue; then
`route()`. -/
def Obligations.UnsolicitedOperation : Prop :=
  ∀ s : State, Acts s → s.arbState = .classify → s.arbExpect = 0 → s.rxPresent = true →
    arbiterOp s = .arbClsUnsolicited ∧
    ∃ s1 : State,
      (s.cfg.ackRequired.getLsbD (arrayAt s.rx.p 0).toNat = false → s1 = s) ∧
      (s.cfg.ackRequired.getLsbD (arrayAt s.rx.p 0).toNat = true → s.queue.length < s.cfg.txqDepth →
        s1 = { s with queue := { n := 1, p := [0x1D], e := 0 } :: s.queue, ev := s.ev ||| 0x0400 }) ∧
      (s.cfg.ackRequired.getLsbD (arrayAt s.rx.p 0).toNat = true → s.cfg.txqDepth ≤ s.queue.length →
        s1 = { s with txqOvf := true, ev := s.ev ||| 0x2000 }) ∧
      exec .arbClsUnsolicited s = .next (if s.rx.ok = true then { s1 with arbState := .dispatch }
        else { s1 with arbState := .select, ev := s1.ev ||| 0x0800 })

/-- R186, R188, R189, R190, R191: the other four classifications, a retry or an unexpected reply pushing `cur` back at
the head where the queue has room. -/
def Obligations.ClassifyOperations : Prop :=
  (∀ s : State, Acts s → s.arbState = .classify → s.arbExpect = 0 → s.rxPresent = false →
    arbiterOp s = .arbClsIdle ∧ exec .arbClsIdle s = .next { s with
      arbState := .select, ev := s.ev ||| 0x0040 }) ∧
  (∀ s : State, Acts s → s.arbState = .classify → s.arbExpect ≠ 0 → s.rxPresent = false →
    s.queue.length < s.cfg.txqDepth →
    arbiterOp s = .arbClsRetry ∧ exec .arbClsRetry s = .next { s with
      arbState := .select, queue := s.cur :: s.queue, ev := s.ev ||| 0x0080 }) ∧
  (∀ s : State, Acts s → s.arbState = .classify → s.arbExpect ≠ 0 → s.rxPresent = false →
    s.cfg.txqDepth ≤ s.queue.length →
    arbiterOp s = .arbClsRetry ∧ exec .arbClsRetry s = .next { s with
      arbState := .select, txqOvf := true, ev := s.ev ||| 0x2080 }) ∧
  (∀ s : State, Acts s → s.arbState = .classify → s.arbExpect ≠ 0 → s.rxPresent = true →
    s.arbExpect.getLsbD (arrayAt s.rx.p 0).toNat = false → s.queue.length < s.cfg.txqDepth →
    arbiterOp s = .arbClsUnexpected ∧ exec .arbClsUnexpected s = .next { s with
      arbState := if s.rx.ok = true then .dispatch else .select, queue := s.cur :: s.queue, arbSkip := true,
      ev := s.ev ||| (if s.rx.ok = true then 0x0100 else 0x0900) }) ∧
  (∀ s : State, Acts s → s.arbState = .classify → s.arbExpect ≠ 0 → s.rxPresent = true →
    s.arbExpect.getLsbD (arrayAt s.rx.p 0).toNat = false → s.cfg.txqDepth ≤ s.queue.length →
    arbiterOp s = .arbClsUnexpected ∧ exec .arbClsUnexpected s = .next { s with
      arbState := if s.rx.ok = true then .dispatch else .select, txqOvf := true, arbSkip := true,
      ev := s.ev ||| (if s.rx.ok = true then 0x2100 else 0x2900) }) ∧
  (∀ s : State, Acts s → s.arbState = .classify → s.arbExpect ≠ 0 → s.rxPresent = true →
    s.arbExpect.getLsbD (arrayAt s.rx.p 0).toNat = true →
    arbiterOp s = .arbClsMatch ∧ exec .arbClsMatch s = .next { s with
      arbState := if s.rx.ok = true then .dispatch else .select,
      ev := s.ev ||| (if s.rx.ok = true then 0x0200 else 0x0A00) })

/-- R192, R193: the two operations of DISPATCH. -/
def Obligations.DispatchOperations : Prop :=
  (∀ s : State, Acts s → s.arbState = .dispatch → (inputsNow s).msgReady = false →
    msgValid s = true ∧ msgTransfer s = none ∧
    arbiterOp s = .arbDispatchHold ∧ exec .arbDispatchHold s = .next s) ∧
  (∀ s : State, Acts s → s.arbState = .dispatch → (inputsNow s).msgReady = true →
    arbiterOp s = .arbDispatchDone ∧ exec .arbDispatchDone s = .next { s with
      arbState := .select, ev := s.ev ||| 0x1000 } ∧
    msgTransfer s = some (arrayRead s.rx.p s.rx.n.toNat))

/-! ## The transmit queue -/

/-- R62, R91, R220, R221, R222, R223: a command transferred is appended, inserted at the head, or discarded; payload
byte `i` is lane `i` of the port. -/
def Obligations.HostQueueOperations : Prop :=
  (∀ (s : State) (len : Byte) (v : Lanes) (e : TypeSet), Commands s → (inputsNow s).cmdLen = len →
    (inputsNow s).cmdPayload = v → (inputsNow s).cmdExpect = e → (inputsNow s).cmdHead = false →
    1 ≤ len.toNat → len.toNat ≤ 253 →
    commandOp s = some (.qSend len v e) ∧ exec (.qSend len v e) s = .next { s with
      queue := s.queue ++ [⟨len, (List.range len.toNat).map fun i => BitVec.ofNat 8 (v.toNat / 2 ^ (8 * i)), e⟩] }) ∧
  (∀ (s : State) (len : Byte) (v : Lanes) (e : TypeSet), Commands s → (inputsNow s).cmdLen = len →
    (inputsNow s).cmdPayload = v → (inputsNow s).cmdExpect = e → (inputsNow s).cmdHead = true →
    1 ≤ len.toNat → len.toNat ≤ 253 →
    commandOp s = some (.qSendPriority len v e) ∧ exec (.qSendPriority len v e) s = .next { s with
      queue := ⟨len, (List.range len.toNat).map fun i => BitVec.ofNat 8 (v.toNat / 2 ^ (8 * i)), e⟩ :: s.queue }) ∧
  (∀ (s : State) (h : Bool) (len : Byte) (v : Lanes) (e : TypeSet), Commands s → (inputsNow s).cmdHead = h →
    (inputsNow s).cmdLen = len → (inputsNow s).cmdPayload = v → (inputsNow s).cmdExpect = e →
    (len.toNat = 0 ∨ 254 ≤ len.toNat) →
    commandOp s = some (.qCmdBad h len v e) ∧ exec (.qCmdBad h len v e) s = .next { s with
      ev := s.ev ||| 0x4000 }) ∧
  (∀ s : State, (inputsNow s).rst = false →
    ((inputsNow s).cmdValid = false ∨ s.arbState = .dead ∨ s.arbState = .stopped ∨
      s.cfg.txqDepth ≤ s.queue.length + 2) → commandOp s = none)

/-- R224, R225, R226: the internal operations. Where the queue is empty, the stand-alone poll returns "none" (the
rule's quoted source); the returned message stands in the model's own field `ret` (log 6). -/
def Obligations.InternalQueueOperations : Prop :=
  (∀ (s : State) (m : TxMsg) (rest : List TxMsg), s.queue = m :: rest →
    exec .qPop s = .next { s with queue := rest, ret := .popped (some m) }) ∧
  (∀ s : State, s.queue = [] → exec .qPop s = .next { s with ret := .popped none }) ∧
  (∀ (s : State) (m : TxMsg), s.queue.length < s.cfg.txqDepth →
    exec (.qPushHead m) s = .next { s with queue := m :: s.queue }) ∧
  (∀ (s : State) (m : TxMsg), s.cfg.txqDepth ≤ s.queue.length →
    exec (.qPushHead m) s = exec (.qPushOvf m) s) ∧
  (∀ (s : State) (m : TxMsg),
    exec (.qPushOvf m) s = .next { s with txqOvf := true, ev := s.ev ||| 0x2000 })

/-- R228: after two tail insertions and a head insertion with no pop between, the pops return the head insertion, then
the tail insertions in their order. What a stand-alone pop returns stands in the model's own field `ret` (log 6). -/
def Obligations.PriorityOrder : Prop :=
  ∀ (s : State) (la lb lc : Byte) (va vb vc : Lanes) (ea eb ec : TypeSet), s.queue = [] →
    ∃ t1 t2 t3, runOps [.qSend la va ea, .qSend lb vb eb, .qSendPriority lc vc ec, .qPop] s = .next t1 ∧
      t1.ret = .popped (some (commandMsg lc vc ec)) ∧
      runOps [.qPop] t1 = .next t2 ∧ t2.ret = .popped (some (commandMsg la va ea)) ∧
      runOps [.qPop] t2 = .next t3 ∧ t3.ret = .popped (some (commandMsg lb vb eb)) ∧ t3.queue = []

/-- R66: in one cycle a dequeue sees the queue as it stood, then the host's insertion applies, and an internal push
lands in front of the host's head insertion. -/
def Obligations.SameCycleQueueOrder : Prop :=
  (∀ (s t : State) (c m : TxMsg) (rest : List TxMsg), Acts s → s.arbState = .select → s.arbSkip = false →
    s.queue = m :: rest → cmdTransfer s = some c → c.wf = true → step s = .next t →
    t.cur = m ∧ t.queue = if (inputsNow s).cmdHead = true then c :: rest else rest ++ [c]) ∧
  (∀ (s t : State) (c : TxMsg), Acts s → s.arbState = .classify → s.arbExpect ≠ 0 → s.rxPresent = false →
    cmdTransfer s = some c → c.wf = true → step s = .next t →
    t.queue = if (inputsNow s).cmdHead = true then s.cur :: c :: s.queue else s.cur :: (s.queue ++ [c])) ∧
  (∀ (s t : State) (c : TxMsg), Acts s → s.arbState = .classify → s.arbExpect ≠ 0 → s.rxPresent = true →
    s.arbExpect.getLsbD (arrayAt s.rx.p 0).toNat = false →
    cmdTransfer s = some c → c.wf = true → step s = .next t →
    t.queue = if (inputsNow s).cmdHead = true then s.cur :: c :: s.queue else s.cur :: (s.queue ++ [c])) ∧
  (∀ (s t : State) (c : TxMsg), Acts s → s.arbState = .classify → s.arbExpect = 0 → s.rxPresent = true →
    s.cfg.ackRequired.getLsbD (arrayAt s.rx.p 0).toNat = true →
    cmdTransfer s = some c → c.wf = true → step s = .next t →
    t.queue = if (inputsNow s).cmdHead = true then ackMsg :: c :: s.queue else ackMsg :: (s.queue ++ [c]))

/-! ## Reset, outputs and the whole machine -/

/-- R45: the registers that the spec gives a reset value, and the outputs that follow. -/
def Obligations.ResetValues : Prop :=
  State.reset.arbState = .off ∧ State.reset.decState = .hunt ∧ State.reset.decEsc = false ∧
  State.reset.arbSkip = false ∧ State.reset.arbExpect = 0 ∧ State.reset.rxPresent = false ∧
  State.reset.queue = [] ∧ State.reset.txqOvf = false ∧ State.reset.ev = 0 ∧
  State.reset.written = ⟨false, false, false, false, false, false, false, false⟩ ∧ State.reset.decBuf = [] ∧
  rxReady State.reset = false ∧ txValid State.reset = false ∧ cmdReady State.reset = true ∧
  msgValid State.reset = false ∧ statusWord State.reset = 0

/-- R290, R291: a cycle with `rst = 1` leaves the reset state, from every state and whatever the other inputs. The
parameters and the coming inputs are no registers (log 15). -/
def Obligations.ResetCycle : Prop :=
  ∀ s : State, (inputsNow s).rst = true →
    step s = .next { State.reset with cfg := s.cfg, stim := s.stim.next }

/-- R41: the outputs, and that they depend on no input of the cycle (R5). What the dispatch data show while `msg_valid`
is 0 (S8, log 13) is not stated. -/
def Obligations.OutputSignals : Prop :=
  (∀ s : State,
    (rxReady s = true ↔ (s.arbState.running = true ∧ (s.decState = .hunt ∨ s.decState = .len ∨ s.decState = .body))) ∧
    (txValid s = true ↔ s.arbState = .tx) ∧
    (s.arbState = .tx → txData s = (encodeFrame s.cfg.checksumAlg s.cur).getD s.txPos.toNat 0) ∧
    (s.arbState ≠ .tx → txData s = 0x00) ∧
    (cmdReady s = true ↔
      (s.arbState ≠ .dead ∧ s.arbState ≠ .stopped ∧ s.queue.length + 2 < s.cfg.txqDepth)) ∧
    (msgValid s = true ↔ s.arbState = .dispatch) ∧
    (msgValid s = true → (outputs s).msgLen = s.rx.n ∧ (outputs s).msgType = s.rx.p.getD 0 0) ∧
    (outputs s).ev = s.ev) ∧
  (∀ (s : State) (l : InputStream), outputs { s with stim := l } = outputs s)

/-- R92: while a message is offered, lane `i` of the dispatch port is payload byte `i` for `i < rx_n`, and 0 past it. -/
def Obligations.DispatchLanes : Prop :=
  ∀ (s : State) (i : Nat), msgValid s = true → i < 253 → s.rx.n.toNat ≤ 253 →
    BitVec.ofNat 8 ((outputs s).msgPayload.toNat / 2 ^ (8 * i)) =
      if i < s.rx.n.toNat then s.rx.p.getD i 0 else 0

/-- R42: the fields of the status word, with the codes of `arb_state` (R22), `dec_state` (R24) and `link_state` (R23). -/
def Obligations.StatusFields : Prop :=
  ∀ s : State,
    (s.arbState = .off → (statusWord s).extractLsb' 0 3 = 0) ∧
    (s.arbState = .select → (statusWord s).extractLsb' 0 3 = 1) ∧
    (s.arbState = .tx → (statusWord s).extractLsb' 0 3 = 2) ∧
    (s.arbState = .wait → (statusWord s).extractLsb' 0 3 = 3) ∧
    (s.arbState = .classify → (statusWord s).extractLsb' 0 3 = 4) ∧
    (s.arbState = .dispatch → (statusWord s).extractLsb' 0 3 = 5) ∧
    (s.arbState = .dead → (statusWord s).extractLsb' 0 3 = 6) ∧
    (s.arbState = .stopped → (statusWord s).extractLsb' 0 3 = 7) ∧
    (s.decState = .hunt → (statusWord s).extractLsb' 3 2 = 0) ∧
    (s.decState = .len → (statusWord s).extractLsb' 3 2 = 1) ∧
    (s.decState = .body → (statusWord s).extractLsb' 3 2 = 2) ∧
    (s.decState = .offer → (statusWord s).extractLsb' 3 2 = 3) ∧
    (s.arbState = .off → (statusWord s).extractLsb' 5 2 = 0) ∧
    (s.arbState.running = true → (statusWord s).extractLsb' 5 2 = 1) ∧
    (s.arbState = .dead → (statusWord s).extractLsb' 5 2 = 2) ∧
    (s.arbState = .stopped → (statusWord s).extractLsb' 5 2 = 3) ∧
    (statusWord s).getLsbD 7 = s.arbSkip ∧
    (statusWord s).getLsbD 8 = s.txqOvf ∧
    ((statusWord s).getLsbD 9 = true ↔ s.arbExpect ≠ 0) ∧
    (statusWord s).extractLsb' 10 8 = BitVec.ofNat 8 s.queue.length ∧
    (statusWord s).extractLsb' 18 14 = 0

/-- R94, R299: every state with every input has a next state; no step faults or refuses. -/
def Obligations.StepIsTotal : Prop :=
  ∀ s : State, ∃ t, step s = .next t

/-- R7 to R11 ("nothing writes them"): a step changes no parameter, uses up one cycle's inputs, and leaves the model's
own `ret` alone unless it resets. -/
def Obligations.ParametersAreFixed : Prop :=
  ∀ s t : State, step s = .next t →
    t.cfg = s.cfg ∧ t.stim = s.stim.next ∧ ((inputsNow s).rst = false → t.ret = s.ret)

/-- R38, R226: the overflow flag is set by an overflow alone and cleared by reset alone. -/
def Obligations.OverflowFlagIsSticky : Prop :=
  ∀ s t : State, (inputsNow s).rst = false → step s = .next t →
    t.txqOvf = (s.txqOvf || t.ev.getLsbD 13)

/-- R39, R260: the events of the decoder, the transmitter and the command port are raised in exactly the cycles that
their rules say. -/
def Obligations.PortEventsExactly : Prop :=
  ∀ s t : State, (inputsNow s).rst = false → step s = .next t →
    (t.ev.getLsbD 0 = true ↔
      (Live s ∧ (s.decState = .len ∨ s.decState = .body) ∧ (inputsNow s).rxError = true)) ∧
    (t.ev.getLsbD 1 = true ↔ (∃ b, Receives b s ∧ s.decState = .len ∧ b.toNat < 3)) ∧
    (t.ev.getLsbD 2 = true ↔ (∃ b, Receives b s ∧ s.decState = .body ∧ s.decEsc = false ∧
      s.decLen.toNat < s.decIdx.toNat + 2)) ∧
    (t.ev.getLsbD 3 = true ↔ (Live s ∧ s.decState = .offer ∧ s.arbState ≠ .wait ∧
      s.decTimer + 1 = s.cfg.tHandoff)) ∧
    (t.ev.getLsbD 4 = true ↔ (Live s ∧ s.decState = .offer ∧ s.arbState = .wait)) ∧
    (t.ev.getLsbD 5 = true ↔ (Live s ∧ s.arbState = .tx ∧ (inputsNow s).txReady = true ∧
      s.txPos.toNat + 1 = (curFrame s).length)) ∧
    (t.ev.getLsbD 14 = true ↔ (Commands s ∧ commandLengthOk (inputsNow s).cmdLen = false)) ∧
    (t.ev.getLsbD 15 = true ↔ (Acts s ∧ s.arbState = .tx ∧ (inputsNow s).txError = true))

/-- R195, R260, R266: the events of CLASSIFY, of DISPATCH and of the queue's overflow are raised in exactly the cycles
that their rules say; in particular an ACK is queued only where no reply was expected. The room that a push finds is
that after the cycle's command. -/
def Obligations.ArbiterEventsExactly : Prop :=
  ∀ s t : State, (inputsNow s).rst = false → step s = .next t →
    (t.ev.getLsbD 6 = true ↔ (Acts s ∧ s.arbState = .classify ∧ s.arbExpect = 0 ∧ s.rxPresent = false)) ∧
    (t.ev.getLsbD 7 = true ↔ (Acts s ∧ s.arbState = .classify ∧ s.arbExpect ≠ 0 ∧ s.rxPresent = false)) ∧
    (t.ev.getLsbD 8 = true ↔ (Acts s ∧ s.arbState = .classify ∧ s.arbExpect ≠ 0 ∧ s.rxPresent = true ∧
      s.arbExpect.getLsbD (msgType s.rx.p).toNat = false)) ∧
    (t.ev.getLsbD 9 = true ↔ (Acts s ∧ s.arbState = .classify ∧ s.arbExpect ≠ 0 ∧ s.rxPresent = true ∧
      s.arbExpect.getLsbD (msgType s.rx.p).toNat = true)) ∧
    (t.ev.getLsbD 10 = true ↔ (Acts s ∧ s.arbState = .classify ∧ s.arbExpect = 0 ∧ s.rxPresent = true ∧
      ackRequired s.cfg (msgType s.rx.p) = true ∧ s.queue.length < s.cfg.txqDepth)) ∧
    (t.ev.getLsbD 11 = true ↔ (Acts s ∧ s.arbState = .classify ∧ s.rxPresent = true ∧ s.rx.ok = false)) ∧
    (t.ev.getLsbD 12 = true ↔ (Acts s ∧ s.arbState = .dispatch ∧ (inputsNow s).msgReady = true)) ∧
    (t.ev.getLsbD 13 = true ↔ (Acts s ∧ s.arbState = .classify ∧ s.cfg.txqDepth ≤ s.queue.length ∧
      ((s.arbExpect ≠ 0 ∧ s.rxPresent = false) ∨
       (s.arbExpect ≠ 0 ∧ s.rxPresent = true ∧ s.arbExpect.getLsbD (msgType s.rx.p).toNat = false) ∨
       (s.arbExpect = 0 ∧ s.rxPresent = true ∧ ackRequired s.cfg (msgType s.rx.p) = true))))

/-- R65, R184: the received-message register changes only at the hand-off, which moves the whole message the decoder
holds; the decoder is in HUNT and the arbiter in CLASSIFY after it. -/
def Obligations.HandoffMovesTheMessage : Prop :=
  ∀ s t : State, (inputsNow s).rst = false → step s = .next t →
    ((inputsNow s).ctrlStop = false → s.arbState = .wait → s.decState = .offer →
      t.rx = heldMessage s ∧ t.rxPresent = true ∧ t.arbState = .classify ∧ t.decState = .hunt) ∧
    (¬((inputsNow s).ctrlStop = false ∧ s.arbState = .wait ∧ s.decState = .offer) → t.rx = s.rx)

/-! ## Timers and link cycles -/

/-- R185, R268: with no stop, no reset and no message offered, WAIT lasts exactly T_REPLY cycles and ends with
`rx_present = 0`. -/
def Obligations.WaitTimesOutExactly : Prop :=
  ∀ s : State, s.arbState = .wait → s.arbTimer = 0 → 1 ≤ s.cfg.tReply →
    (∀ i, i < s.cfg.tReply → (inputAt s i).rst = false ∧ (inputAt s i).ctrlStop = false) →
    (∀ i t, i < s.cfg.tReply → RunsTo i s t → t.decState ≠ .offer) →
    (∀ i, i < s.cfg.tReply → ∃ t, RunsTo i s t ∧ t.arbState = .wait ∧ t.arbTimer = i) ∧
    ∃ t, RunsTo s.cfg.tReply s t ∧ t.arbState = .classify ∧ t.rxPresent = false

/-- R69, R268, R297: whatever the inputs, the arbiter leaves WAIT within T_REPLY cycles. The other waits have no bound:
TX lasts as long as no byte is accepted (HANG_TX), DISPATCH as long as the message is not taken (HANG_DISPATCH), LEN and
BODY as long as no byte is offered (BODY_STARVE). One record of inputs can go on without end, so each of them can. -/
def Obligations.WaitIsBounded : Prop :=
  (∀ s : State, s.arbState = .wait → s.arbTimer < s.cfg.tReply →
    ∃ n t, n ≤ s.cfg.tReply - s.arbTimer ∧ RunsTo n s t ∧ t.arbState ≠ .wait) ∧
  (∀ (n : Nat) (s : State), s.arbState = .tx → Undisturbed n s → (∀ i, i < n → (inputAt s i).txReady = false) →
    ∃ t, RunsTo n s t ∧ t.arbState = .tx ∧ t.cur = s.cur ∧ t.txPos = s.txPos) ∧
  (∀ (n : Nat) (s : State), s.arbState = .dispatch →
    (∀ i, i < n → (inputAt s i).rst = false ∧ (inputAt s i).ctrlStop = false ∧ (inputAt s i).msgReady = false) →
    ∃ t, RunsTo n s t ∧ t.arbState = .dispatch ∧ t.rx = s.rx) ∧
  (∀ (n : Nat) (s : State), s.arbState.running = true → (s.decState = .len ∨ s.decState = .body) → Undisturbed n s →
    (∀ i, i < n → (inputAt s i).rxValid = false ∧ (inputAt s i).rxError = false) →
    ∃ t, RunsTo n s t ∧ t.arbState.running = true ∧ t.decState = s.decState ∧ t.decLen = s.decLen ∧
      t.decIdx = s.decIdx ∧ t.decEsc = s.decEsc ∧ t.decBuf = s.decBuf) ∧
  (∀ (s : State) (x : Inputs) (i : Nat), inputAt { s with stim := .always x } i = x)

/-- R125, R268: with the arbiter never in WAIT and the link undisturbed, a completed frame is held exactly T_HANDOFF
cycles and then dropped. -/
def Obligations.OfferDropsExactly : Prop :=
  ∀ s : State, s.decState = .offer → s.decTimer = 0 → 1 ≤ s.cfg.tHandoff →
    Undisturbed s.cfg.tHandoff s →
    (∀ i t, i < s.cfg.tHandoff → RunsTo i s t → t.arbState.running = true ∧ t.arbState ≠ .wait) →
    (∀ i, i < s.cfg.tHandoff → ∃ t, RunsTo i s t ∧ t.decState = .offer ∧ t.decTimer = i) ∧
    ∃ t, RunsTo s.cfg.tHandoff s t ∧ t.decState = .hunt ∧ t.ev.getLsbD 3 = true

/-- R188, R189, R194, R297: a command that expects a reply and gets none, with nothing received, no command and no
stall in its link cycle, is at the head of the same queue again after `1 + W + T_REPLY + 1` cycles, with EV_RETRY; its
whole frame was sent once in them. The same holds of any number of such link cycles (RETRY_FOREVER). Where the panel
answers with a good frame of a type outside the set, the command is at the head again after the send cycle, which ends
in EV_UNEXPECTED, and the skip cycle, ready for the same again (UNEXPECTED_FOREVER). -/
def Obligations.RetryLinkCycle : Prop :=
  (∀ (s : State) (m : TxMsg) (rest : List TxMsg), s.arbState = .select → s.arbSkip = false → s.decState = .hunt →
    s.queue = m :: rest → m.wf = true → m.e ≠ 0 → 1 ≤ s.cfg.tReply → s.queue.length ≤ s.cfg.txqDepth →
    NothingOffered (1 + (encodeFrame s.cfg.checksumAlg m).length + s.cfg.tReply + 1) s →
    TransportAccepts (1 + (encodeFrame s.cfg.checksumAlg m).length + s.cfg.tReply + 1) s →
    ∃ t, RunsTo (1 + (encodeFrame s.cfg.checksumAlg m).length + s.cfg.tReply + 1) s t ∧
      t.arbState = .select ∧ t.queue = m :: rest ∧ t.arbSkip = false ∧ t.ev = 0x0080 ∧
      txTrace (1 + (encodeFrame s.cfg.checksumAlg m).length + s.cfg.tReply + 1) s =
        encodeFrame s.cfg.checksumAlg m) ∧
  (∀ (k : Nat) (s : State) (m : TxMsg) (rest : List TxMsg), s.arbState = .select → s.arbSkip = false →
    s.decState = .hunt → s.queue = m :: rest → m.wf = true → m.e ≠ 0 → 1 ≤ s.cfg.tReply →
    s.queue.length ≤ s.cfg.txqDepth →
    NothingOffered (k * (1 + (encodeFrame s.cfg.checksumAlg m).length + s.cfg.tReply + 1)) s →
    TransportAccepts (k * (1 + (encodeFrame s.cfg.checksumAlg m).length + s.cfg.tReply + 1)) s →
    ∃ t, RunsTo (k * (1 + (encodeFrame s.cfg.checksumAlg m).length + s.cfg.tReply + 1)) s t ∧
      t.arbState = .select ∧ t.queue = m :: rest ∧ t.arbSkip = false ∧
      txTrace (k * (1 + (encodeFrame s.cfg.checksumAlg m).length + s.cfg.tReply + 1)) s =
        (List.replicate k (encodeFrame s.cfg.checksumAlg m)).flatten) ∧
  (∀ (s : State) (m r : TxMsg) (rest : List TxMsg) (w v n : Nat), s.arbState = .select → s.arbSkip = false →
    s.decState = .hunt → s.queue = m :: rest → m.wf = true → m.e ≠ 0 → s.queue.length ≤ s.cfg.txqDepth →
    r.wf = true → m.e.getLsbD (r.p.getD 0 0).toNat = false →
    w = (encodeFrame s.cfg.checksumAlg m).length → v = (encodeFrame s.cfg.checksumAlg r).length →
    v < s.cfg.tReply → n = w + v + s.cfg.tReply + 6 →
    (∀ i, i < n → (inputAt s i).rst = false ∧ (inputAt s i).ctrlStop = false ∧ (inputAt s i).cmdValid = false ∧
      (inputAt s i).rxError = false ∧ (inputAt s i).msgReady = true) →
    TransportAccepts n s →
    (∀ i, i < n → (inputAt s i).rxValid = decide (1 + w ≤ i ∧ i < 1 + w + v)) →
    (∀ i, i < v → (inputAt s (1 + w + i)).rxData = (encodeFrame s.cfg.checksumAlg r).getD i 0) →
    (∃ u, RunsTo (w + v + 3) s u ∧ u.ev = 0x0100) ∧
    ∃ t, RunsTo n s t ∧ t.arbState = .select ∧ t.arbSkip = false ∧ t.decState = .hunt ∧ t.queue = m :: rest ∧
      txTrace n s = encodeFrame s.cfg.checksumAlg m)

/-- R182, R194: a skip cycle in which nothing is received and no command comes transmits nothing, takes
`1 + T_REPLY + 1` cycles, clears the skip flag and leaves the queue for the next link cycle. -/
def Obligations.SkipLinkCycle : Prop :=
  ∀ s : State, s.arbState = .select → s.arbSkip = true → s.decState = .hunt → 1 ≤ s.cfg.tReply →
    NothingOffered (1 + s.cfg.tReply + 1) s →
    ∃ t, RunsTo (1 + s.cfg.tReply + 1) s t ∧ t.arbState = .select ∧ t.queue = s.queue ∧ t.arbSkip = false ∧
      t.arbExpect = 0 ∧ t.ev = 0x0040 ∧ txTrace (1 + s.cfg.tReply + 1) s = []

/-- R299: a run that has ended by its second kind "will only repeat idle link cycles". From a quiescent state, over any
number of cycles that nothing drives, nothing is transferred, nothing is queued or expected, the decoder stays in HUNT,
and the arbiter stays in OFF or goes round WAIT, CLASSIFY and SELECT with no event but EV_IDLE_TIMEOUT. A spent
stimulus, and a test program's driver after its last line with nothing on offer, drive no cycle (after `first` with no
`loop`, by the model's choice of log 2). -/
def Obligations.EndedRunOnlyIdles : Prop :=
  (∀ (n : Nat) (s : State), quiescent s = true → (∀ i, i < n + 1 → (inputAt s i).undriven = true) →
    ∃ t, RunsTo n s t ∧ NothingTransferred t ∧ t.queue = [] ∧ t.decState = .hunt ∧ t.arbSkip = false ∧
      t.arbExpect = 0 ∧ (s.arbState = .off → t.arbState = .off) ∧
      (s.arbState = .wait → t.arbState = .wait ∨ t.arbState = .classify ∨ t.arbState = .select) ∧
      (1 ≤ n → t.ev = 0 ∨ t.ev = 0x0040)) ∧
  (∀ (s : State) (i : Nat), stimulusSpent s = true → (inputAt s i).undriven = true) ∧
  (∀ d : Driver, d.afterLast = true → d.offering = false → d.inputs.undriven = true)

/-! ## Invariants -/

/-- R22 to R37, R61, R111: every step keeps the registers in the ranges and shapes the spec gives them. -/
def Obligations.StepKeepsLinkInv : Prop :=
  ∀ s t : State, LinkInv s → step s = .next t → LinkInv t

/-- The invariants of `StepKeepsLinkInv` and `StepKeepsSentBytes` hold at reset, with the default parameters. -/
def Obligations.LinkInvAtReset : Prop := LinkInv State.reset ∧ SendInv [] State.reset

/-- R227: every step keeps the count invariant, by which the queue never exceeds TXQ_DEPTH, and raises no overflow. -/
def Obligations.StepKeepsCapacity : Prop :=
  ∀ s t : State, CapacityInv s → step s = .next t →
    CapacityInv t ∧ t.ev.getLsbD 13 = false ∧ (s.txqOvf = false → t.txqOvf = false)

/-- The invariant of `StepKeepsCapacity` holds at reset. -/
def Obligations.CapacityInvAtReset : Prop := CapacityInv State.reset

/-- R44: no step reads an unwritten register. Two states that agree on everything but the contents of unwritten
registers show the same outputs and step to states that agree again, and a register is written before a state in which
it is read. So the values the model gives those registers at reset (log 1) are never seen. (`dec_buf`, whose unwritten
entries are those its list does not hold, is the same in both; `StepKeepsLinkInv` says that the entries read are held.) -/
def Obligations.UnwrittenIsNeverRead : Prop :=
  ∀ s s' : State, WrittenInv s → Agree s s' →
    visible s = visible s' ∧
    ∃ t t', step s = .next t ∧ step s' = .next t' ∧ Agree t t' ∧ WrittenInv t

/-- The invariant of `UnwrittenIsNeverRead` holds at reset. -/
def Obligations.WrittenInvAtReset : Prop := WrittenInv State.reset
end

