-- ==== Sys2Proof/Laws/State.lean ====
section
/-! SUPPORT. One lemma per field per update of the state, so that no later proof unfolds a record update. -/

namespace Sys2Proof.Machine

section setDecState
variable (s : State) (v : DecState)

@[simp] theorem State.setDecState_cfg : (s.setDecState v).cfg = s.cfg := rfl
@[simp] theorem State.setDecState_stim : (s.setDecState v).stim = s.stim := rfl
@[simp] theorem State.setDecState_arbState : (s.setDecState v).arbState = s.arbState := rfl
@[simp] theorem State.setDecState_decState : (s.setDecState v).decState = v := rfl
@[simp] theorem State.setDecState_decLen : (s.setDecState v).decLen = s.decLen := rfl
@[simp] theorem State.setDecState_decIdx : (s.setDecState v).decIdx = s.decIdx := rfl
@[simp] theorem State.setDecState_decEsc : (s.setDecState v).decEsc = s.decEsc := rfl
@[simp] theorem State.setDecState_decBuf : (s.setDecState v).decBuf = s.decBuf := rfl
@[simp] theorem State.setDecState_decOk : (s.setDecState v).decOk = s.decOk := rfl
@[simp] theorem State.setDecState_decTimer : (s.setDecState v).decTimer = s.decTimer := rfl
@[simp] theorem State.setDecState_arbSkip : (s.setDecState v).arbSkip = s.arbSkip := rfl
@[simp] theorem State.setDecState_arbExpect : (s.setDecState v).arbExpect = s.arbExpect := rfl
@[simp] theorem State.setDecState_cur : (s.setDecState v).cur = s.cur := rfl
@[simp] theorem State.setDecState_txPos : (s.setDecState v).txPos = s.txPos := rfl
@[simp] theorem State.setDecState_arbTimer : (s.setDecState v).arbTimer = s.arbTimer := rfl
@[simp] theorem State.setDecState_rxPresent : (s.setDecState v).rxPresent = s.rxPresent := rfl
@[simp] theorem State.setDecState_rx : (s.setDecState v).rx = s.rx := rfl
@[simp] theorem State.setDecState_queue : (s.setDecState v).queue = s.queue := rfl
@[simp] theorem State.setDecState_txqOvf : (s.setDecState v).txqOvf = s.txqOvf := rfl
@[simp] theorem State.setDecState_ev : (s.setDecState v).ev = s.ev := rfl
@[simp] theorem State.setDecState_written : (s.setDecState v).written = s.written := rfl
@[simp] theorem State.setDecState_ret : (s.setDecState v).ret = s.ret := rfl

end setDecState

section setDecLen
variable (s : State) (v : Byte)

@[simp] theorem State.setDecLen_cfg : (s.setDecLen v).cfg = s.cfg := rfl
@[simp] theorem State.setDecLen_stim : (s.setDecLen v).stim = s.stim := rfl
@[simp] theorem State.setDecLen_arbState : (s.setDecLen v).arbState = s.arbState := rfl
@[simp] theorem State.setDecLen_decState : (s.setDecLen v).decState = s.decState := rfl
@[simp] theorem State.setDecLen_decLen : (s.setDecLen v).decLen = v := rfl
@[simp] theorem State.setDecLen_decIdx : (s.setDecLen v).decIdx = s.decIdx := rfl
@[simp] theorem State.setDecLen_decEsc : (s.setDecLen v).decEsc = s.decEsc := rfl
@[simp] theorem State.setDecLen_decBuf : (s.setDecLen v).decBuf = s.decBuf := rfl
@[simp] theorem State.setDecLen_decOk : (s.setDecLen v).decOk = s.decOk := rfl
@[simp] theorem State.setDecLen_decTimer : (s.setDecLen v).decTimer = s.decTimer := rfl
@[simp] theorem State.setDecLen_arbSkip : (s.setDecLen v).arbSkip = s.arbSkip := rfl
@[simp] theorem State.setDecLen_arbExpect : (s.setDecLen v).arbExpect = s.arbExpect := rfl
@[simp] theorem State.setDecLen_cur : (s.setDecLen v).cur = s.cur := rfl
@[simp] theorem State.setDecLen_txPos : (s.setDecLen v).txPos = s.txPos := rfl
@[simp] theorem State.setDecLen_arbTimer : (s.setDecLen v).arbTimer = s.arbTimer := rfl
@[simp] theorem State.setDecLen_rxPresent : (s.setDecLen v).rxPresent = s.rxPresent := rfl
@[simp] theorem State.setDecLen_rx : (s.setDecLen v).rx = s.rx := rfl
@[simp] theorem State.setDecLen_queue : (s.setDecLen v).queue = s.queue := rfl
@[simp] theorem State.setDecLen_txqOvf : (s.setDecLen v).txqOvf = s.txqOvf := rfl
@[simp] theorem State.setDecLen_ev : (s.setDecLen v).ev = s.ev := rfl
@[simp] theorem State.setDecLen_written : (s.setDecLen v).written = { s.written with decLen := true } := rfl
@[simp] theorem State.setDecLen_ret : (s.setDecLen v).ret = s.ret := rfl

end setDecLen

section setDecIdx
variable (s : State) (v : Byte)

@[simp] theorem State.setDecIdx_cfg : (s.setDecIdx v).cfg = s.cfg := rfl
@[simp] theorem State.setDecIdx_stim : (s.setDecIdx v).stim = s.stim := rfl
@[simp] theorem State.setDecIdx_arbState : (s.setDecIdx v).arbState = s.arbState := rfl
@[simp] theorem State.setDecIdx_decState : (s.setDecIdx v).decState = s.decState := rfl
@[simp] theorem State.setDecIdx_decLen : (s.setDecIdx v).decLen = s.decLen := rfl
@[simp] theorem State.setDecIdx_decIdx : (s.setDecIdx v).decIdx = v := rfl
@[simp] theorem State.setDecIdx_decEsc : (s.setDecIdx v).decEsc = s.decEsc := rfl
@[simp] theorem State.setDecIdx_decBuf : (s.setDecIdx v).decBuf = s.decBuf := rfl
@[simp] theorem State.setDecIdx_decOk : (s.setDecIdx v).decOk = s.decOk := rfl
@[simp] theorem State.setDecIdx_decTimer : (s.setDecIdx v).decTimer = s.decTimer := rfl
@[simp] theorem State.setDecIdx_arbSkip : (s.setDecIdx v).arbSkip = s.arbSkip := rfl
@[simp] theorem State.setDecIdx_arbExpect : (s.setDecIdx v).arbExpect = s.arbExpect := rfl
@[simp] theorem State.setDecIdx_cur : (s.setDecIdx v).cur = s.cur := rfl
@[simp] theorem State.setDecIdx_txPos : (s.setDecIdx v).txPos = s.txPos := rfl
@[simp] theorem State.setDecIdx_arbTimer : (s.setDecIdx v).arbTimer = s.arbTimer := rfl
@[simp] theorem State.setDecIdx_rxPresent : (s.setDecIdx v).rxPresent = s.rxPresent := rfl
@[simp] theorem State.setDecIdx_rx : (s.setDecIdx v).rx = s.rx := rfl
@[simp] theorem State.setDecIdx_queue : (s.setDecIdx v).queue = s.queue := rfl
@[simp] theorem State.setDecIdx_txqOvf : (s.setDecIdx v).txqOvf = s.txqOvf := rfl
@[simp] theorem State.setDecIdx_ev : (s.setDecIdx v).ev = s.ev := rfl
@[simp] theorem State.setDecIdx_written : (s.setDecIdx v).written = { s.written with decIdx := true } := rfl
@[simp] theorem State.setDecIdx_ret : (s.setDecIdx v).ret = s.ret := rfl

end setDecIdx

section setDecEsc
variable (s : State) (v : Bool)

@[simp] theorem State.setDecEsc_cfg : (s.setDecEsc v).cfg = s.cfg := rfl
@[simp] theorem State.setDecEsc_stim : (s.setDecEsc v).stim = s.stim := rfl
@[simp] theorem State.setDecEsc_arbState : (s.setDecEsc v).arbState = s.arbState := rfl
@[simp] theorem State.setDecEsc_decState : (s.setDecEsc v).decState = s.decState := rfl
@[simp] theorem State.setDecEsc_decLen : (s.setDecEsc v).decLen = s.decLen := rfl
@[simp] theorem State.setDecEsc_decIdx : (s.setDecEsc v).decIdx = s.decIdx := rfl
@[simp] theorem State.setDecEsc_decEsc : (s.setDecEsc v).decEsc = v := rfl
@[simp] theorem State.setDecEsc_decBuf : (s.setDecEsc v).decBuf = s.decBuf := rfl
@[simp] theorem State.setDecEsc_decOk : (s.setDecEsc v).decOk = s.decOk := rfl
@[simp] theorem State.setDecEsc_decTimer : (s.setDecEsc v).decTimer = s.decTimer := rfl
@[simp] theorem State.setDecEsc_arbSkip : (s.setDecEsc v).arbSkip = s.arbSkip := rfl
@[simp] theorem State.setDecEsc_arbExpect : (s.setDecEsc v).arbExpect = s.arbExpect := rfl
@[simp] theorem State.setDecEsc_cur : (s.setDecEsc v).cur = s.cur := rfl
@[simp] theorem State.setDecEsc_txPos : (s.setDecEsc v).txPos = s.txPos := rfl
@[simp] theorem State.setDecEsc_arbTimer : (s.setDecEsc v).arbTimer = s.arbTimer := rfl
@[simp] theorem State.setDecEsc_rxPresent : (s.setDecEsc v).rxPresent = s.rxPresent := rfl
@[simp] theorem State.setDecEsc_rx : (s.setDecEsc v).rx = s.rx := rfl
@[simp] theorem State.setDecEsc_queue : (s.setDecEsc v).queue = s.queue := rfl
@[simp] theorem State.setDecEsc_txqOvf : (s.setDecEsc v).txqOvf = s.txqOvf := rfl
@[simp] theorem State.setDecEsc_ev : (s.setDecEsc v).ev = s.ev := rfl
@[simp] theorem State.setDecEsc_written : (s.setDecEsc v).written = s.written := rfl
@[simp] theorem State.setDecEsc_ret : (s.setDecEsc v).ret = s.ret := rfl

end setDecEsc

section setDecOk
variable (s : State) (v : Bool)

@[simp] theorem State.setDecOk_cfg : (s.setDecOk v).cfg = s.cfg := rfl
@[simp] theorem State.setDecOk_stim : (s.setDecOk v).stim = s.stim := rfl
@[simp] theorem State.setDecOk_arbState : (s.setDecOk v).arbState = s.arbState := rfl
@[simp] theorem State.setDecOk_decState : (s.setDecOk v).decState = s.decState := rfl
@[simp] theorem State.setDecOk_decLen : (s.setDecOk v).decLen = s.decLen := rfl
@[simp] theorem State.setDecOk_decIdx : (s.setDecOk v).decIdx = s.decIdx := rfl
@[simp] theorem State.setDecOk_decEsc : (s.setDecOk v).decEsc = s.decEsc := rfl
@[simp] theorem State.setDecOk_decBuf : (s.setDecOk v).decBuf = s.decBuf := rfl
@[simp] theorem State.setDecOk_decOk : (s.setDecOk v).decOk = v := rfl
@[simp] theorem State.setDecOk_decTimer : (s.setDecOk v).decTimer = s.decTimer := rfl
@[simp] theorem State.setDecOk_arbSkip : (s.setDecOk v).arbSkip = s.arbSkip := rfl
@[simp] theorem State.setDecOk_arbExpect : (s.setDecOk v).arbExpect = s.arbExpect := rfl
@[simp] theorem State.setDecOk_cur : (s.setDecOk v).cur = s.cur := rfl
@[simp] theorem State.setDecOk_txPos : (s.setDecOk v).txPos = s.txPos := rfl
@[simp] theorem State.setDecOk_arbTimer : (s.setDecOk v).arbTimer = s.arbTimer := rfl
@[simp] theorem State.setDecOk_rxPresent : (s.setDecOk v).rxPresent = s.rxPresent := rfl
@[simp] theorem State.setDecOk_rx : (s.setDecOk v).rx = s.rx := rfl
@[simp] theorem State.setDecOk_queue : (s.setDecOk v).queue = s.queue := rfl
@[simp] theorem State.setDecOk_txqOvf : (s.setDecOk v).txqOvf = s.txqOvf := rfl
@[simp] theorem State.setDecOk_ev : (s.setDecOk v).ev = s.ev := rfl
@[simp] theorem State.setDecOk_written : (s.setDecOk v).written = { s.written with decOk := true } := rfl
@[simp] theorem State.setDecOk_ret : (s.setDecOk v).ret = s.ret := rfl

end setDecOk

section setDecTimer
variable (s : State) (v : Nat)

@[simp] theorem State.setDecTimer_cfg : (s.setDecTimer v).cfg = s.cfg := rfl
@[simp] theorem State.setDecTimer_stim : (s.setDecTimer v).stim = s.stim := rfl
@[simp] theorem State.setDecTimer_arbState : (s.setDecTimer v).arbState = s.arbState := rfl
@[simp] theorem State.setDecTimer_decState : (s.setDecTimer v).decState = s.decState := rfl
@[simp] theorem State.setDecTimer_decLen : (s.setDecTimer v).decLen = s.decLen := rfl
@[simp] theorem State.setDecTimer_decIdx : (s.setDecTimer v).decIdx = s.decIdx := rfl
@[simp] theorem State.setDecTimer_decEsc : (s.setDecTimer v).decEsc = s.decEsc := rfl
@[simp] theorem State.setDecTimer_decBuf : (s.setDecTimer v).decBuf = s.decBuf := rfl
@[simp] theorem State.setDecTimer_decOk : (s.setDecTimer v).decOk = s.decOk := rfl
@[simp] theorem State.setDecTimer_decTimer : (s.setDecTimer v).decTimer = v := rfl
@[simp] theorem State.setDecTimer_arbSkip : (s.setDecTimer v).arbSkip = s.arbSkip := rfl
@[simp] theorem State.setDecTimer_arbExpect : (s.setDecTimer v).arbExpect = s.arbExpect := rfl
@[simp] theorem State.setDecTimer_cur : (s.setDecTimer v).cur = s.cur := rfl
@[simp] theorem State.setDecTimer_txPos : (s.setDecTimer v).txPos = s.txPos := rfl
@[simp] theorem State.setDecTimer_arbTimer : (s.setDecTimer v).arbTimer = s.arbTimer := rfl
@[simp] theorem State.setDecTimer_rxPresent : (s.setDecTimer v).rxPresent = s.rxPresent := rfl
@[simp] theorem State.setDecTimer_rx : (s.setDecTimer v).rx = s.rx := rfl
@[simp] theorem State.setDecTimer_queue : (s.setDecTimer v).queue = s.queue := rfl
@[simp] theorem State.setDecTimer_txqOvf : (s.setDecTimer v).txqOvf = s.txqOvf := rfl
@[simp] theorem State.setDecTimer_ev : (s.setDecTimer v).ev = s.ev := rfl
@[simp] theorem State.setDecTimer_written : (s.setDecTimer v).written = { s.written with decTimer := true } := rfl
@[simp] theorem State.setDecTimer_ret : (s.setDecTimer v).ret = s.ret := rfl

end setDecTimer

section setArbState
variable (s : State) (v : ArbState)

@[simp] theorem State.setArbState_cfg : (s.setArbState v).cfg = s.cfg := rfl
@[simp] theorem State.setArbState_stim : (s.setArbState v).stim = s.stim := rfl
@[simp] theorem State.setArbState_arbState : (s.setArbState v).arbState = v := rfl
@[simp] theorem State.setArbState_decState : (s.setArbState v).decState = s.decState := rfl
@[simp] theorem State.setArbState_decLen : (s.setArbState v).decLen = s.decLen := rfl
@[simp] theorem State.setArbState_decIdx : (s.setArbState v).decIdx = s.decIdx := rfl
@[simp] theorem State.setArbState_decEsc : (s.setArbState v).decEsc = s.decEsc := rfl
@[simp] theorem State.setArbState_decBuf : (s.setArbState v).decBuf = s.decBuf := rfl
@[simp] theorem State.setArbState_decOk : (s.setArbState v).decOk = s.decOk := rfl
@[simp] theorem State.setArbState_decTimer : (s.setArbState v).decTimer = s.decTimer := rfl
@[simp] theorem State.setArbState_arbSkip : (s.setArbState v).arbSkip = s.arbSkip := rfl
@[simp] theorem State.setArbState_arbExpect : (s.setArbState v).arbExpect = s.arbExpect := rfl
@[simp] theorem State.setArbState_cur : (s.setArbState v).cur = s.cur := rfl
@[simp] theorem State.setArbState_txPos : (s.setArbState v).txPos = s.txPos := rfl
@[simp] theorem State.setArbState_arbTimer : (s.setArbState v).arbTimer = s.arbTimer := rfl
@[simp] theorem State.setArbState_rxPresent : (s.setArbState v).rxPresent = s.rxPresent := rfl
@[simp] theorem State.setArbState_rx : (s.setArbState v).rx = s.rx := rfl
@[simp] theorem State.setArbState_queue : (s.setArbState v).queue = s.queue := rfl
@[simp] theorem State.setArbState_txqOvf : (s.setArbState v).txqOvf = s.txqOvf := rfl
@[simp] theorem State.setArbState_ev : (s.setArbState v).ev = s.ev := rfl
@[simp] theorem State.setArbState_written : (s.setArbState v).written = s.written := rfl
@[simp] theorem State.setArbState_ret : (s.setArbState v).ret = s.ret := rfl

end setArbState

section setArbSkip
variable (s : State) (v : Bool)

@[simp] theorem State.setArbSkip_cfg : (s.setArbSkip v).cfg = s.cfg := rfl
@[simp] theorem State.setArbSkip_stim : (s.setArbSkip v).stim = s.stim := rfl
@[simp] theorem State.setArbSkip_arbState : (s.setArbSkip v).arbState = s.arbState := rfl
@[simp] theorem State.setArbSkip_decState : (s.setArbSkip v).decState = s.decState := rfl
@[simp] theorem State.setArbSkip_decLen : (s.setArbSkip v).decLen = s.decLen := rfl
@[simp] theorem State.setArbSkip_decIdx : (s.setArbSkip v).decIdx = s.decIdx := rfl
@[simp] theorem State.setArbSkip_decEsc : (s.setArbSkip v).decEsc = s.decEsc := rfl
@[simp] theorem State.setArbSkip_decBuf : (s.setArbSkip v).decBuf = s.decBuf := rfl
@[simp] theorem State.setArbSkip_decOk : (s.setArbSkip v).decOk = s.decOk := rfl
@[simp] theorem State.setArbSkip_decTimer : (s.setArbSkip v).decTimer = s.decTimer := rfl
@[simp] theorem State.setArbSkip_arbSkip : (s.setArbSkip v).arbSkip = v := rfl
@[simp] theorem State.setArbSkip_arbExpect : (s.setArbSkip v).arbExpect = s.arbExpect := rfl
@[simp] theorem State.setArbSkip_cur : (s.setArbSkip v).cur = s.cur := rfl
@[simp] theorem State.setArbSkip_txPos : (s.setArbSkip v).txPos = s.txPos := rfl
@[simp] theorem State.setArbSkip_arbTimer : (s.setArbSkip v).arbTimer = s.arbTimer := rfl
@[simp] theorem State.setArbSkip_rxPresent : (s.setArbSkip v).rxPresent = s.rxPresent := rfl
@[simp] theorem State.setArbSkip_rx : (s.setArbSkip v).rx = s.rx := rfl
@[simp] theorem State.setArbSkip_queue : (s.setArbSkip v).queue = s.queue := rfl
@[simp] theorem State.setArbSkip_txqOvf : (s.setArbSkip v).txqOvf = s.txqOvf := rfl
@[simp] theorem State.setArbSkip_ev : (s.setArbSkip v).ev = s.ev := rfl
@[simp] theorem State.setArbSkip_written : (s.setArbSkip v).written = s.written := rfl
@[simp] theorem State.setArbSkip_ret : (s.setArbSkip v).ret = s.ret := rfl

end setArbSkip

section setArbExpect
variable (s : State) (v : TypeSet)

@[simp] theorem State.setArbExpect_cfg : (s.setArbExpect v).cfg = s.cfg := rfl
@[simp] theorem State.setArbExpect_stim : (s.setArbExpect v).stim = s.stim := rfl
@[simp] theorem State.setArbExpect_arbState : (s.setArbExpect v).arbState = s.arbState := rfl
@[simp] theorem State.setArbExpect_decState : (s.setArbExpect v).decState = s.decState := rfl
@[simp] theorem State.setArbExpect_decLen : (s.setArbExpect v).decLen = s.decLen := rfl
@[simp] theorem State.setArbExpect_decIdx : (s.setArbExpect v).decIdx = s.decIdx := rfl
@[simp] theorem State.setArbExpect_decEsc : (s.setArbExpect v).decEsc = s.decEsc := rfl
@[simp] theorem State.setArbExpect_decBuf : (s.setArbExpect v).decBuf = s.decBuf := rfl
@[simp] theorem State.setArbExpect_decOk : (s.setArbExpect v).decOk = s.decOk := rfl
@[simp] theorem State.setArbExpect_decTimer : (s.setArbExpect v).decTimer = s.decTimer := rfl
@[simp] theorem State.setArbExpect_arbSkip : (s.setArbExpect v).arbSkip = s.arbSkip := rfl
@[simp] theorem State.setArbExpect_arbExpect : (s.setArbExpect v).arbExpect = v := rfl
@[simp] theorem State.setArbExpect_cur : (s.setArbExpect v).cur = s.cur := rfl
@[simp] theorem State.setArbExpect_txPos : (s.setArbExpect v).txPos = s.txPos := rfl
@[simp] theorem State.setArbExpect_arbTimer : (s.setArbExpect v).arbTimer = s.arbTimer := rfl
@[simp] theorem State.setArbExpect_rxPresent : (s.setArbExpect v).rxPresent = s.rxPresent := rfl
@[simp] theorem State.setArbExpect_rx : (s.setArbExpect v).rx = s.rx := rfl
@[simp] theorem State.setArbExpect_queue : (s.setArbExpect v).queue = s.queue := rfl
@[simp] theorem State.setArbExpect_txqOvf : (s.setArbExpect v).txqOvf = s.txqOvf := rfl
@[simp] theorem State.setArbExpect_ev : (s.setArbExpect v).ev = s.ev := rfl
@[simp] theorem State.setArbExpect_written : (s.setArbExpect v).written = s.written := rfl
@[simp] theorem State.setArbExpect_ret : (s.setArbExpect v).ret = s.ret := rfl

end setArbExpect

section setCur
variable (s : State) (v : TxMsg)

@[simp] theorem State.setCur_cfg : (s.setCur v).cfg = s.cfg := rfl
@[simp] theorem State.setCur_stim : (s.setCur v).stim = s.stim := rfl
@[simp] theorem State.setCur_arbState : (s.setCur v).arbState = s.arbState := rfl
@[simp] theorem State.setCur_decState : (s.setCur v).decState = s.decState := rfl
@[simp] theorem State.setCur_decLen : (s.setCur v).decLen = s.decLen := rfl
@[simp] theorem State.setCur_decIdx : (s.setCur v).decIdx = s.decIdx := rfl
@[simp] theorem State.setCur_decEsc : (s.setCur v).decEsc = s.decEsc := rfl
@[simp] theorem State.setCur_decBuf : (s.setCur v).decBuf = s.decBuf := rfl
@[simp] theorem State.setCur_decOk : (s.setCur v).decOk = s.decOk := rfl
@[simp] theorem State.setCur_decTimer : (s.setCur v).decTimer = s.decTimer := rfl
@[simp] theorem State.setCur_arbSkip : (s.setCur v).arbSkip = s.arbSkip := rfl
@[simp] theorem State.setCur_arbExpect : (s.setCur v).arbExpect = s.arbExpect := rfl
@[simp] theorem State.setCur_cur : (s.setCur v).cur = v := rfl
@[simp] theorem State.setCur_txPos : (s.setCur v).txPos = s.txPos := rfl
@[simp] theorem State.setCur_arbTimer : (s.setCur v).arbTimer = s.arbTimer := rfl
@[simp] theorem State.setCur_rxPresent : (s.setCur v).rxPresent = s.rxPresent := rfl
@[simp] theorem State.setCur_rx : (s.setCur v).rx = s.rx := rfl
@[simp] theorem State.setCur_queue : (s.setCur v).queue = s.queue := rfl
@[simp] theorem State.setCur_txqOvf : (s.setCur v).txqOvf = s.txqOvf := rfl
@[simp] theorem State.setCur_ev : (s.setCur v).ev = s.ev := rfl
@[simp] theorem State.setCur_written : (s.setCur v).written = { s.written with cur := true } := rfl
@[simp] theorem State.setCur_ret : (s.setCur v).ret = s.ret := rfl

end setCur

section setTxPos
variable (s : State) (v : BitVec 9)

@[simp] theorem State.setTxPos_cfg : (s.setTxPos v).cfg = s.cfg := rfl
@[simp] theorem State.setTxPos_stim : (s.setTxPos v).stim = s.stim := rfl
@[simp] theorem State.setTxPos_arbState : (s.setTxPos v).arbState = s.arbState := rfl
@[simp] theorem State.setTxPos_decState : (s.setTxPos v).decState = s.decState := rfl
@[simp] theorem State.setTxPos_decLen : (s.setTxPos v).decLen = s.decLen := rfl
@[simp] theorem State.setTxPos_decIdx : (s.setTxPos v).decIdx = s.decIdx := rfl
@[simp] theorem State.setTxPos_decEsc : (s.setTxPos v).decEsc = s.decEsc := rfl
@[simp] theorem State.setTxPos_decBuf : (s.setTxPos v).decBuf = s.decBuf := rfl
@[simp] theorem State.setTxPos_decOk : (s.setTxPos v).decOk = s.decOk := rfl
@[simp] theorem State.setTxPos_decTimer : (s.setTxPos v).decTimer = s.decTimer := rfl
@[simp] theorem State.setTxPos_arbSkip : (s.setTxPos v).arbSkip = s.arbSkip := rfl
@[simp] theorem State.setTxPos_arbExpect : (s.setTxPos v).arbExpect = s.arbExpect := rfl
@[simp] theorem State.setTxPos_cur : (s.setTxPos v).cur = s.cur := rfl
@[simp] theorem State.setTxPos_txPos : (s.setTxPos v).txPos = v := rfl
@[simp] theorem State.setTxPos_arbTimer : (s.setTxPos v).arbTimer = s.arbTimer := rfl
@[simp] theorem State.setTxPos_rxPresent : (s.setTxPos v).rxPresent = s.rxPresent := rfl
@[simp] theorem State.setTxPos_rx : (s.setTxPos v).rx = s.rx := rfl
@[simp] theorem State.setTxPos_queue : (s.setTxPos v).queue = s.queue := rfl
@[simp] theorem State.setTxPos_txqOvf : (s.setTxPos v).txqOvf = s.txqOvf := rfl
@[simp] theorem State.setTxPos_ev : (s.setTxPos v).ev = s.ev := rfl
@[simp] theorem State.setTxPos_written : (s.setTxPos v).written = { s.written with txPos := true } := rfl
@[simp] theorem State.setTxPos_ret : (s.setTxPos v).ret = s.ret := rfl

end setTxPos

section setArbTimer
variable (s : State) (v : Nat)

@[simp] theorem State.setArbTimer_cfg : (s.setArbTimer v).cfg = s.cfg := rfl
@[simp] theorem State.setArbTimer_stim : (s.setArbTimer v).stim = s.stim := rfl
@[simp] theorem State.setArbTimer_arbState : (s.setArbTimer v).arbState = s.arbState := rfl
@[simp] theorem State.setArbTimer_decState : (s.setArbTimer v).decState = s.decState := rfl
@[simp] theorem State.setArbTimer_decLen : (s.setArbTimer v).decLen = s.decLen := rfl
@[simp] theorem State.setArbTimer_decIdx : (s.setArbTimer v).decIdx = s.decIdx := rfl
@[simp] theorem State.setArbTimer_decEsc : (s.setArbTimer v).decEsc = s.decEsc := rfl
@[simp] theorem State.setArbTimer_decBuf : (s.setArbTimer v).decBuf = s.decBuf := rfl
@[simp] theorem State.setArbTimer_decOk : (s.setArbTimer v).decOk = s.decOk := rfl
@[simp] theorem State.setArbTimer_decTimer : (s.setArbTimer v).decTimer = s.decTimer := rfl
@[simp] theorem State.setArbTimer_arbSkip : (s.setArbTimer v).arbSkip = s.arbSkip := rfl
@[simp] theorem State.setArbTimer_arbExpect : (s.setArbTimer v).arbExpect = s.arbExpect := rfl
@[simp] theorem State.setArbTimer_cur : (s.setArbTimer v).cur = s.cur := rfl
@[simp] theorem State.setArbTimer_txPos : (s.setArbTimer v).txPos = s.txPos := rfl
@[simp] theorem State.setArbTimer_arbTimer : (s.setArbTimer v).arbTimer = v := rfl
@[simp] theorem State.setArbTimer_rxPresent : (s.setArbTimer v).rxPresent = s.rxPresent := rfl
@[simp] theorem State.setArbTimer_rx : (s.setArbTimer v).rx = s.rx := rfl
@[simp] theorem State.setArbTimer_queue : (s.setArbTimer v).queue = s.queue := rfl
@[simp] theorem State.setArbTimer_txqOvf : (s.setArbTimer v).txqOvf = s.txqOvf := rfl
@[simp] theorem State.setArbTimer_ev : (s.setArbTimer v).ev = s.ev := rfl
@[simp] theorem State.setArbTimer_written : (s.setArbTimer v).written = { s.written with arbTimer := true } := rfl
@[simp] theorem State.setArbTimer_ret : (s.setArbTimer v).ret = s.ret := rfl

end setArbTimer

section setRxPresent
variable (s : State) (v : Bool)

@[simp] theorem State.setRxPresent_cfg : (s.setRxPresent v).cfg = s.cfg := rfl
@[simp] theorem State.setRxPresent_stim : (s.setRxPresent v).stim = s.stim := rfl
@[simp] theorem State.setRxPresent_arbState : (s.setRxPresent v).arbState = s.arbState := rfl
@[simp] theorem State.setRxPresent_decState : (s.setRxPresent v).decState = s.decState := rfl
@[simp] theorem State.setRxPresent_decLen : (s.setRxPresent v).decLen = s.decLen := rfl
@[simp] theorem State.setRxPresent_decIdx : (s.setRxPresent v).decIdx = s.decIdx := rfl
@[simp] theorem State.setRxPresent_decEsc : (s.setRxPresent v).decEsc = s.decEsc := rfl
@[simp] theorem State.setRxPresent_decBuf : (s.setRxPresent v).decBuf = s.decBuf := rfl
@[simp] theorem State.setRxPresent_decOk : (s.setRxPresent v).decOk = s.decOk := rfl
@[simp] theorem State.setRxPresent_decTimer : (s.setRxPresent v).decTimer = s.decTimer := rfl
@[simp] theorem State.setRxPresent_arbSkip : (s.setRxPresent v).arbSkip = s.arbSkip := rfl
@[simp] theorem State.setRxPresent_arbExpect : (s.setRxPresent v).arbExpect = s.arbExpect := rfl
@[simp] theorem State.setRxPresent_cur : (s.setRxPresent v).cur = s.cur := rfl
@[simp] theorem State.setRxPresent_txPos : (s.setRxPresent v).txPos = s.txPos := rfl
@[simp] theorem State.setRxPresent_arbTimer : (s.setRxPresent v).arbTimer = s.arbTimer := rfl
@[simp] theorem State.setRxPresent_rxPresent : (s.setRxPresent v).rxPresent = v := rfl
@[simp] theorem State.setRxPresent_rx : (s.setRxPresent v).rx = s.rx := rfl
@[simp] theorem State.setRxPresent_queue : (s.setRxPresent v).queue = s.queue := rfl
@[simp] theorem State.setRxPresent_txqOvf : (s.setRxPresent v).txqOvf = s.txqOvf := rfl
@[simp] theorem State.setRxPresent_ev : (s.setRxPresent v).ev = s.ev := rfl
@[simp] theorem State.setRxPresent_written : (s.setRxPresent v).written = s.written := rfl
@[simp] theorem State.setRxPresent_ret : (s.setRxPresent v).ret = s.ret := rfl

end setRxPresent

section setRx
variable (s : State) (v : RxMsg)

@[simp] theorem State.setRx_cfg : (s.setRx v).cfg = s.cfg := rfl
@[simp] theorem State.setRx_stim : (s.setRx v).stim = s.stim := rfl
@[simp] theorem State.setRx_arbState : (s.setRx v).arbState = s.arbState := rfl
@[simp] theorem State.setRx_decState : (s.setRx v).decState = s.decState := rfl
@[simp] theorem State.setRx_decLen : (s.setRx v).decLen = s.decLen := rfl
@[simp] theorem State.setRx_decIdx : (s.setRx v).decIdx = s.decIdx := rfl
@[simp] theorem State.setRx_decEsc : (s.setRx v).decEsc = s.decEsc := rfl
@[simp] theorem State.setRx_decBuf : (s.setRx v).decBuf = s.decBuf := rfl
@[simp] theorem State.setRx_decOk : (s.setRx v).decOk = s.decOk := rfl
@[simp] theorem State.setRx_decTimer : (s.setRx v).decTimer = s.decTimer := rfl
@[simp] theorem State.setRx_arbSkip : (s.setRx v).arbSkip = s.arbSkip := rfl
@[simp] theorem State.setRx_arbExpect : (s.setRx v).arbExpect = s.arbExpect := rfl
@[simp] theorem State.setRx_cur : (s.setRx v).cur = s.cur := rfl
@[simp] theorem State.setRx_txPos : (s.setRx v).txPos = s.txPos := rfl
@[simp] theorem State.setRx_arbTimer : (s.setRx v).arbTimer = s.arbTimer := rfl
@[simp] theorem State.setRx_rxPresent : (s.setRx v).rxPresent = s.rxPresent := rfl
@[simp] theorem State.setRx_rx : (s.setRx v).rx = v := rfl
@[simp] theorem State.setRx_queue : (s.setRx v).queue = s.queue := rfl
@[simp] theorem State.setRx_txqOvf : (s.setRx v).txqOvf = s.txqOvf := rfl
@[simp] theorem State.setRx_ev : (s.setRx v).ev = s.ev := rfl
@[simp] theorem State.setRx_written : (s.setRx v).written = { s.written with rx := true } := rfl
@[simp] theorem State.setRx_ret : (s.setRx v).ret = s.ret := rfl

end setRx

section setQueue
variable (s : State) (v : List TxMsg)

@[simp] theorem State.setQueue_cfg : (s.setQueue v).cfg = s.cfg := rfl
@[simp] theorem State.setQueue_stim : (s.setQueue v).stim = s.stim := rfl
@[simp] theorem State.setQueue_arbState : (s.setQueue v).arbState = s.arbState := rfl
@[simp] theorem State.setQueue_decState : (s.setQueue v).decState = s.decState := rfl
@[simp] theorem State.setQueue_decLen : (s.setQueue v).decLen = s.decLen := rfl
@[simp] theorem State.setQueue_decIdx : (s.setQueue v).decIdx = s.decIdx := rfl
@[simp] theorem State.setQueue_decEsc : (s.setQueue v).decEsc = s.decEsc := rfl
@[simp] theorem State.setQueue_decBuf : (s.setQueue v).decBuf = s.decBuf := rfl
@[simp] theorem State.setQueue_decOk : (s.setQueue v).decOk = s.decOk := rfl
@[simp] theorem State.setQueue_decTimer : (s.setQueue v).decTimer = s.decTimer := rfl
@[simp] theorem State.setQueue_arbSkip : (s.setQueue v).arbSkip = s.arbSkip := rfl
@[simp] theorem State.setQueue_arbExpect : (s.setQueue v).arbExpect = s.arbExpect := rfl
@[simp] theorem State.setQueue_cur : (s.setQueue v).cur = s.cur := rfl
@[simp] theorem State.setQueue_txPos : (s.setQueue v).txPos = s.txPos := rfl
@[simp] theorem State.setQueue_arbTimer : (s.setQueue v).arbTimer = s.arbTimer := rfl
@[simp] theorem State.setQueue_rxPresent : (s.setQueue v).rxPresent = s.rxPresent := rfl
@[simp] theorem State.setQueue_rx : (s.setQueue v).rx = s.rx := rfl
@[simp] theorem State.setQueue_queue : (s.setQueue v).queue = v := rfl
@[simp] theorem State.setQueue_txqOvf : (s.setQueue v).txqOvf = s.txqOvf := rfl
@[simp] theorem State.setQueue_ev : (s.setQueue v).ev = s.ev := rfl
@[simp] theorem State.setQueue_written : (s.setQueue v).written = s.written := rfl
@[simp] theorem State.setQueue_ret : (s.setQueue v).ret = s.ret := rfl

end setQueue

section setTxqOvf
variable (s : State) (v : Bool)

@[simp] theorem State.setTxqOvf_cfg : (s.setTxqOvf v).cfg = s.cfg := rfl
@[simp] theorem State.setTxqOvf_stim : (s.setTxqOvf v).stim = s.stim := rfl
@[simp] theorem State.setTxqOvf_arbState : (s.setTxqOvf v).arbState = s.arbState := rfl
@[simp] theorem State.setTxqOvf_decState : (s.setTxqOvf v).decState = s.decState := rfl
@[simp] theorem State.setTxqOvf_decLen : (s.setTxqOvf v).decLen = s.decLen := rfl
@[simp] theorem State.setTxqOvf_decIdx : (s.setTxqOvf v).decIdx = s.decIdx := rfl
@[simp] theorem State.setTxqOvf_decEsc : (s.setTxqOvf v).decEsc = s.decEsc := rfl
@[simp] theorem State.setTxqOvf_decBuf : (s.setTxqOvf v).decBuf = s.decBuf := rfl
@[simp] theorem State.setTxqOvf_decOk : (s.setTxqOvf v).decOk = s.decOk := rfl
@[simp] theorem State.setTxqOvf_decTimer : (s.setTxqOvf v).decTimer = s.decTimer := rfl
@[simp] theorem State.setTxqOvf_arbSkip : (s.setTxqOvf v).arbSkip = s.arbSkip := rfl
@[simp] theorem State.setTxqOvf_arbExpect : (s.setTxqOvf v).arbExpect = s.arbExpect := rfl
@[simp] theorem State.setTxqOvf_cur : (s.setTxqOvf v).cur = s.cur := rfl
@[simp] theorem State.setTxqOvf_txPos : (s.setTxqOvf v).txPos = s.txPos := rfl
@[simp] theorem State.setTxqOvf_arbTimer : (s.setTxqOvf v).arbTimer = s.arbTimer := rfl
@[simp] theorem State.setTxqOvf_rxPresent : (s.setTxqOvf v).rxPresent = s.rxPresent := rfl
@[simp] theorem State.setTxqOvf_rx : (s.setTxqOvf v).rx = s.rx := rfl
@[simp] theorem State.setTxqOvf_queue : (s.setTxqOvf v).queue = s.queue := rfl
@[simp] theorem State.setTxqOvf_txqOvf : (s.setTxqOvf v).txqOvf = v := rfl
@[simp] theorem State.setTxqOvf_ev : (s.setTxqOvf v).ev = s.ev := rfl
@[simp] theorem State.setTxqOvf_written : (s.setTxqOvf v).written = s.written := rfl
@[simp] theorem State.setTxqOvf_ret : (s.setTxqOvf v).ret = s.ret := rfl

end setTxqOvf

section setRet
variable (s : State) (v : Returned)

@[simp] theorem State.setRet_cfg : (s.setRet v).cfg = s.cfg := rfl
@[simp] theorem State.setRet_stim : (s.setRet v).stim = s.stim := rfl
@[simp] theorem State.setRet_arbState : (s.setRet v).arbState = s.arbState := rfl
@[simp] theorem State.setRet_decState : (s.setRet v).decState = s.decState := rfl
@[simp] theorem State.setRet_decLen : (s.setRet v).decLen = s.decLen := rfl
@[simp] theorem State.setRet_decIdx : (s.setRet v).decIdx = s.decIdx := rfl
@[simp] theorem State.setRet_decEsc : (s.setRet v).decEsc = s.decEsc := rfl
@[simp] theorem State.setRet_decBuf : (s.setRet v).decBuf = s.decBuf := rfl
@[simp] theorem State.setRet_decOk : (s.setRet v).decOk = s.decOk := rfl
@[simp] theorem State.setRet_decTimer : (s.setRet v).decTimer = s.decTimer := rfl
@[simp] theorem State.setRet_arbSkip : (s.setRet v).arbSkip = s.arbSkip := rfl
@[simp] theorem State.setRet_arbExpect : (s.setRet v).arbExpect = s.arbExpect := rfl
@[simp] theorem State.setRet_cur : (s.setRet v).cur = s.cur := rfl
@[simp] theorem State.setRet_txPos : (s.setRet v).txPos = s.txPos := rfl
@[simp] theorem State.setRet_arbTimer : (s.setRet v).arbTimer = s.arbTimer := rfl
@[simp] theorem State.setRet_rxPresent : (s.setRet v).rxPresent = s.rxPresent := rfl
@[simp] theorem State.setRet_rx : (s.setRet v).rx = s.rx := rfl
@[simp] theorem State.setRet_queue : (s.setRet v).queue = s.queue := rfl
@[simp] theorem State.setRet_txqOvf : (s.setRet v).txqOvf = s.txqOvf := rfl
@[simp] theorem State.setRet_ev : (s.setRet v).ev = s.ev := rfl
@[simp] theorem State.setRet_written : (s.setRet v).written = s.written := rfl
@[simp] theorem State.setRet_ret : (s.setRet v).ret = v := rfl

end setRet

section setDecBuf
variable (s : State) (i : Nat) (b : Byte)

@[simp] theorem State.setDecBuf_cfg : (s.setDecBuf i b).cfg = s.cfg := rfl
@[simp] theorem State.setDecBuf_stim : (s.setDecBuf i b).stim = s.stim := rfl
@[simp] theorem State.setDecBuf_arbState : (s.setDecBuf i b).arbState = s.arbState := rfl
@[simp] theorem State.setDecBuf_decState : (s.setDecBuf i b).decState = s.decState := rfl
@[simp] theorem State.setDecBuf_decLen : (s.setDecBuf i b).decLen = s.decLen := rfl
@[simp] theorem State.setDecBuf_decIdx : (s.setDecBuf i b).decIdx = s.decIdx := rfl
@[simp] theorem State.setDecBuf_decEsc : (s.setDecBuf i b).decEsc = s.decEsc := rfl
@[simp] theorem State.setDecBuf_decBuf : (s.setDecBuf i b).decBuf = arrayWrite s.decBuf i b := rfl
@[simp] theorem State.setDecBuf_decOk : (s.setDecBuf i b).decOk = s.decOk := rfl
@[simp] theorem State.setDecBuf_decTimer : (s.setDecBuf i b).decTimer = s.decTimer := rfl
@[simp] theorem State.setDecBuf_arbSkip : (s.setDecBuf i b).arbSkip = s.arbSkip := rfl
@[simp] theorem State.setDecBuf_arbExpect : (s.setDecBuf i b).arbExpect = s.arbExpect := rfl
@[simp] theorem State.setDecBuf_cur : (s.setDecBuf i b).cur = s.cur := rfl
@[simp] theorem State.setDecBuf_txPos : (s.setDecBuf i b).txPos = s.txPos := rfl
@[simp] theorem State.setDecBuf_arbTimer : (s.setDecBuf i b).arbTimer = s.arbTimer := rfl
@[simp] theorem State.setDecBuf_rxPresent : (s.setDecBuf i b).rxPresent = s.rxPresent := rfl
@[simp] theorem State.setDecBuf_rx : (s.setDecBuf i b).rx = s.rx := rfl
@[simp] theorem State.setDecBuf_queue : (s.setDecBuf i b).queue = s.queue := rfl
@[simp] theorem State.setDecBuf_txqOvf : (s.setDecBuf i b).txqOvf = s.txqOvf := rfl
@[simp] theorem State.setDecBuf_ev : (s.setDecBuf i b).ev = s.ev := rfl
@[simp] theorem State.setDecBuf_written : (s.setDecBuf i b).written = s.written := rfl
@[simp] theorem State.setDecBuf_ret : (s.setDecBuf i b).ret = s.ret := rfl

end setDecBuf

section raise
variable (s : State) (e : Event)

@[simp] theorem State.raise_cfg : (s.raise e).cfg = s.cfg := rfl
@[simp] theorem State.raise_stim : (s.raise e).stim = s.stim := rfl
@[simp] theorem State.raise_arbState : (s.raise e).arbState = s.arbState := rfl
@[simp] theorem State.raise_decState : (s.raise e).decState = s.decState := rfl
@[simp] theorem State.raise_decLen : (s.raise e).decLen = s.decLen := rfl
@[simp] theorem State.raise_decIdx : (s.raise e).decIdx = s.decIdx := rfl
@[simp] theorem State.raise_decEsc : (s.raise e).decEsc = s.decEsc := rfl
@[simp] theorem State.raise_decBuf : (s.raise e).decBuf = s.decBuf := rfl
@[simp] theorem State.raise_decOk : (s.raise e).decOk = s.decOk := rfl
@[simp] theorem State.raise_decTimer : (s.raise e).decTimer = s.decTimer := rfl
@[simp] theorem State.raise_arbSkip : (s.raise e).arbSkip = s.arbSkip := rfl
@[simp] theorem State.raise_arbExpect : (s.raise e).arbExpect = s.arbExpect := rfl
@[simp] theorem State.raise_cur : (s.raise e).cur = s.cur := rfl
@[simp] theorem State.raise_txPos : (s.raise e).txPos = s.txPos := rfl
@[simp] theorem State.raise_arbTimer : (s.raise e).arbTimer = s.arbTimer := rfl
@[simp] theorem State.raise_rxPresent : (s.raise e).rxPresent = s.rxPresent := rfl
@[simp] theorem State.raise_rx : (s.raise e).rx = s.rx := rfl
@[simp] theorem State.raise_queue : (s.raise e).queue = s.queue := rfl
@[simp] theorem State.raise_txqOvf : (s.raise e).txqOvf = s.txqOvf := rfl
@[simp] theorem State.raise_ev : (s.raise e).ev = s.ev ||| e.mask := rfl
@[simp] theorem State.raise_written : (s.raise e).written = s.written := rfl
@[simp] theorem State.raise_ret : (s.raise e).ret = s.ret := rfl

end raise

section clearEv
variable (s : State)

@[simp] theorem State.clearEv_cfg : (s.clearEv).cfg = s.cfg := rfl
@[simp] theorem State.clearEv_stim : (s.clearEv).stim = s.stim := rfl
@[simp] theorem State.clearEv_arbState : (s.clearEv).arbState = s.arbState := rfl
@[simp] theorem State.clearEv_decState : (s.clearEv).decState = s.decState := rfl
@[simp] theorem State.clearEv_decLen : (s.clearEv).decLen = s.decLen := rfl
@[simp] theorem State.clearEv_decIdx : (s.clearEv).decIdx = s.decIdx := rfl
@[simp] theorem State.clearEv_decEsc : (s.clearEv).decEsc = s.decEsc := rfl
@[simp] theorem State.clearEv_decBuf : (s.clearEv).decBuf = s.decBuf := rfl
@[simp] theorem State.clearEv_decOk : (s.clearEv).decOk = s.decOk := rfl
@[simp] theorem State.clearEv_decTimer : (s.clearEv).decTimer = s.decTimer := rfl
@[simp] theorem State.clearEv_arbSkip : (s.clearEv).arbSkip = s.arbSkip := rfl
@[simp] theorem State.clearEv_arbExpect : (s.clearEv).arbExpect = s.arbExpect := rfl
@[simp] theorem State.clearEv_cur : (s.clearEv).cur = s.cur := rfl
@[simp] theorem State.clearEv_txPos : (s.clearEv).txPos = s.txPos := rfl
@[simp] theorem State.clearEv_arbTimer : (s.clearEv).arbTimer = s.arbTimer := rfl
@[simp] theorem State.clearEv_rxPresent : (s.clearEv).rxPresent = s.rxPresent := rfl
@[simp] theorem State.clearEv_rx : (s.clearEv).rx = s.rx := rfl
@[simp] theorem State.clearEv_queue : (s.clearEv).queue = s.queue := rfl
@[simp] theorem State.clearEv_txqOvf : (s.clearEv).txqOvf = s.txqOvf := rfl
@[simp] theorem State.clearEv_ev : (s.clearEv).ev = 0 := rfl
@[simp] theorem State.clearEv_written : (s.clearEv).written = s.written := rfl
@[simp] theorem State.clearEv_ret : (s.clearEv).ret = s.ret := rfl

end clearEv

end Sys2Proof.Machine
end

