-- ==== Sys2Proof/Laws/Ops.lean ====
section
/-! SUPPORT. The laws of the coming inputs. For each shared operation, once, everything it can do; the lemmas that later proofs cite instead of
unfolding it. -/

namespace Sys2Proof.Machine

/-! The coming inputs -/

@[simp] theorem InputStream.single_now (i : Inputs) : (InputStream.single i).now = i := rfl
@[simp] theorem InputStream.setNow_now (i : Inputs) (x : InputStream) : (x.setNow i).now = i := rfl
@[simp] theorem InputStream.setNow_next (i : Inputs) (x : InputStream) : (x.setNow i).next = x.next := rfl
@[simp] theorem InputStream.always_now (i : Inputs) : (InputStream.always i).now = i := rfl
@[simp] theorem InputStream.always_next (i : Inputs) : (InputStream.always i).next = InputStream.always i := rfl
@[simp] theorem InputStream.drop_zero (x : InputStream) : x.drop 0 = x := rfl
@[simp] theorem InputStream.drop_succ (n : Nat) (x : InputStream) : x.drop (n + 1) = x.next.drop n := rfl

theorem InputStream.drop_add (m n : Nat) (x : InputStream) : x.drop (m + n) = (x.drop m).drop n := by
  induction m generalizing x with
  | zero => rw [Nat.zero_add]; rfl
  | succ m ih => rw [Nat.succ_add]; exact ih x.next

/-- The same inputs go on without end. -/
theorem drop_always (i : Inputs) (n : Nat) : (InputStream.always i).drop n = InputStream.always i := by
  induction n with
  | zero => rfl
  | succ n ih => exact ih

/-- The records of `first` are the inputs of that many cycles. -/
theorem drop_first (as bs loop : List Inputs) :
    InputStream.drop as.length ⟨as ++ bs, loop⟩ = ⟨bs, loop⟩ := by
  induction as with
  | nil => rfl
  | cons a as ih => exact ih

/-- After `first`, the inputs have the period of `loop`. -/
theorem drop_loop (loop : List Inputs) : InputStream.drop loop.length ⟨[], loop⟩ = ⟨[], loop⟩ := by
  cases loop with
  | nil => rfl
  | cons a as =>
    have h := drop_first as [] (a :: as)
    rw [List.append_nil] at h
    exact h

/-- With neither `first` nor `loop` the inputs are those that nothing drives (R96), without end. -/
theorem drop_nil (n : Nat) : InputStream.drop n ⟨[], []⟩ = ⟨[], []⟩ := by
  induction n with
  | zero => rfl
  | succ n ih => exact ih

/-! Arrays, lanes and messages -/

theorem arrayAt_of_lt (buf : List Byte) {i : Nat} (h : i < buf.length) : arrayAt buf i = buf[i] := by
  simp [arrayAt, h]

theorem arrayAt_of_le (buf : List Byte) {i : Nat} (h : buf.length ≤ i) : arrayAt buf i = 0 := by
  simp [arrayAt, h]

@[simp] theorem arrayRead_length (buf : List Byte) (n : Nat) : (arrayRead buf n).length = n := by
  simp [arrayRead]

/-- A read inside an array is its initial segment. -/
theorem arrayRead_eq_take {buf : List Byte} {n : Nat} (h : n ≤ buf.length) : arrayRead buf n = buf.take n := by
  apply List.ext_getElem
  · simp [h]
  · intro i h1 h2
    have hi : i < buf.length := lt_of_lt_of_le (by simpa using h1) h
    simp [arrayRead, arrayAt_of_lt buf hi]

theorem arrayRead_getElem (buf : List Byte) (n i : Nat) (h : i < (arrayRead buf n).length) :
    (arrayRead buf n)[i] = arrayAt buf i := by
  simp [arrayRead]

theorem arrayAt_arrayRead {buf : List Byte} {n i : Nat} (h : i < n) : arrayAt (arrayRead buf n) i = arrayAt buf i := by
  simp [arrayRead, arrayAt, h]

/-- A write inside an array replaces one entry. -/
theorem arrayWrite_of_lt {buf : List Byte} {i : Nat} (b : Byte) (h : i < buf.length) :
    arrayWrite buf i b = buf.set i b := by
  simp [arrayWrite, h]

/-- A write just past the entries an array holds appends one. -/
theorem arrayWrite_at_end (buf : List Byte) (b : Byte) : arrayWrite buf buf.length b = buf ++ [b] := by
  simp [arrayWrite]

theorem arrayWrite_length (buf : List Byte) (i : Nat) (b : Byte) :
    (arrayWrite buf i b).length = max buf.length (i + 1) := by
  unfold arrayWrite
  split
  · simp; omega
  · simp; omega

/-- The entries before the one written are read as before. -/
theorem arrayRead_arrayWrite (buf : List Byte) {i n : Nat} (b : Byte) (h : n ≤ i) (hi : i ≤ buf.length) :
    arrayRead (arrayWrite buf i b) n = arrayRead buf n := by
  have hl := arrayWrite_length buf i b
  rw [arrayRead_eq_take (by omega), arrayRead_eq_take (by omega)]
  unfold arrayWrite
  split
  · rw [List.take_set_of_le h]
  · have : i = buf.length := by omega
    subst this
    simp [List.take_append_of_le_length h]

@[simp] theorem lanesToBytes_length (v : Lanes) (n : Nat) : (lanesToBytes v n).length = n := by
  simp [lanesToBytes]

theorem lanesToBytes_getElem (v : Lanes) (n i : Nat) (h : i < (lanesToBytes v n).length) :
    (lanesToBytes v n)[i] = lane v i := by
  simp [lanesToBytes]

/-- A command's message has the length, the lanes and the expected set of the port. -/
theorem commandMsg_eq (len : Byte) (v : Lanes) (e : TypeSet) :
    commandMsg len v e = { n := len, p := lanesToBytes v len.toNat, e := e } := rfl

theorem commandMsg_wf (len : Byte) (v : Lanes) (e : TypeSet) :
    (commandMsg len v e).wf = commandLengthOk len := by
  simp [commandMsg, TxMsg.wf, payloadOk, commandLengthOk]

theorem ackMsg_wf : ackMsg.wf = true := by decide

/-- The message the decoder holds has the length of the frame less the trailer. -/
theorem heldMessage_wf {s : State} (h : 3 ≤ s.decLen.toNat) : (heldMessage s).wf = true := by
  have h2 := s.decLen.isLt
  have h3 : (s.decLen - 2#8).toNat = s.decLen.toNat - 2 := by
    rw [BitVec.toNat_sub]; simp; omega
  simp [heldMessage, RxMsg.wf, payloadOk, h3]
  omega

/-! Events -/

/-- Raising an event sets its bit and leaves the others. -/
theorem raise_ev_getLsbD (e : Event) (s : State) (i : Nat) :
    (s.raise e).ev.getLsbD i = (s.ev.getLsbD i || decide (i = e.code)) := by
  have hc : e.code < 16 := by cases e <;> decide
  simp only [State.raise, Event.mask, BitVec.getLsbD_or, BitVec.getLsbD_shiftLeft, BitVec.getLsbD_one]
  congr 1
  by_cases h : i = e.code
  · subst h; simp [hc]
  · simp only [h, decide_false]
    by_cases h2 : i < e.code
    · simp [h2]
    · have : i - e.code ≠ 0 := by omega
      simp [this]

/-! Checksum unit, encoder -/

/-- The two checksum bytes put together again. -/
theorem checksum_bytes (c : Checksum) : checksumHigh c ++ checksumLow c = c := by
  apply BitVec.eq_of_getLsbD_eq
  intro i hi
  simp only [checksumHigh, checksumLow, BitVec.getLsbD_append, BitVec.getLsbD_extractLsb']
  by_cases h : i < 8
  · simp [h]
  · have h2 : i - 8 < 8 := by omega
    have h3 : 8 + (i - 8) = i := by omega
    simp [h, h2, h3]

/-- A check compares all 16 bits. -/
theorem checkTrailer_iff (alg : ChecksumAlg) (p : List Byte) (lo hi : Byte) :
    checkTrailer alg p lo hi = true ↔ checksumLow (checksum alg p) = lo ∧ checksumHigh (checksum alg p) = hi := by
  simp only [checkTrailer, beq_iff_eq]
  constructor
  · intro h
    rw [h]
    constructor <;> apply BitVec.eq_of_getLsbD_eq <;> intro i hi
    · simp only [checksumLow, BitVec.getLsbD_extractLsb', BitVec.getLsbD_append]
      simp [hi]
    · simp only [checksumHigh, BitVec.getLsbD_extractLsb', BitVec.getLsbD_append]
      simp [hi]
  · rintro ⟨rfl, rfl⟩
    exact (checksum_bytes _).symm

/-- The trailer the encoder writes passes the check. -/
theorem checkTrailer_trailer (alg : ChecksumAlg) (p : List Byte) :
    checkTrailer alg p (checksumLow (checksum alg p)) (checksumHigh (checksum alg p)) = true :=
  (checkTrailer_iff alg p _ _).2 ⟨rfl, rfl⟩

@[simp] theorem stuff_nil : stuff [] = [] := rfl

@[simp] theorem stuff_cons (b : Byte) (p : List Byte) : stuff (b :: p) = stuff1 b ++ stuff p := by
  simp [stuff]

@[simp] theorem stuff1_esc : stuff1 0x7D = [0x7D, 0x5D] := by decide

@[simp] theorem stuff1_other {b : Byte} (h : b ≠ 0x7D) : stuff1 b = [b] := if_neg h

theorem encodeFrame_eq (alg : ChecksumAlg) (m : TxMsg) :
    encodeFrame alg m = 0x7E :: (m.n + 2) ::
      (stuff m.p ++ [checksumLow (checksum alg m.p), checksumHigh (checksum alg m.p)]) := rfl

theorem encodeFrame_ne_nil (alg : ChecksumAlg) (m : TxMsg) : encodeFrame alg m ≠ [] := by
  simp [encodeFrame_eq]

/-! Decoder -/

theorem toHunt_eq (s : State) : toHunt s = { s with decState := .hunt, decEsc := false } := rfl

theorem storeByte_eq (b : Byte) (s : State) :
    storeByte b s = { s with
      decBuf := arrayWrite s.decBuf s.decIdx.toNat b, decIdx := s.decIdx + 1,
      written := { s.written with decIdx := true } } := rfl

/-! Arbiter -/

theorem enterWait_eq (s : State) :
    enterWait s = { s with arbTimer := 0, arbState := .wait, written := { s.written with arbTimer := true } } := rfl

/-- `route()` writes the arbiter's state and, on a bad checksum, raises EV_CSUM_ERR. -/
theorem route_eq (s : State) :
    route s = { s with
      arbState := if s.rxPresent = true ∧ s.rx.ok = true then .dispatch else .select,
      ev := if s.rxPresent = true ∧ s.rx.ok = false then s.ev ||| 0x0800 else s.ev } := by
  unfold route
  cases s with
  | mk _ _ _ _ _ _ _ _ _ _ _ _ _ _ _ rxPresent rx =>
    cases rx with
    | mk n p ok => cases rxPresent <;> cases ok <;> rfl

/-! Transmit queue -/

theorem pushOverflow_eq (m : State) : pushOverflow m = { m with txqOvf := true, ev := m.ev ||| 0x2000 } := rfl

/-- An internal push finds room. -/
theorem pushHead_of_room {m : TxMsg} {s : State} (h : s.queue.length < s.cfg.txqDepth) :
    pushHead m s = { s with queue := m :: s.queue } := by
  simp [pushHead, hasRoom, h, State.setQueue]

/-- An internal push on a full queue. -/
theorem pushHead_of_full {m : TxMsg} {s : State} (h : s.cfg.txqDepth ≤ s.queue.length) :
    pushHead m s = { s with txqOvf := true, ev := s.ev ||| 0x2000 } := by
  simp [pushHead, hasRoom, Nat.not_lt.2 h, pushOverflow_eq]

/-- The push of an owed ACK finds room. -/
theorem pushAck_of_room {s : State} (h : s.queue.length < s.cfg.txqDepth) :
    pushAck s = { s with queue := ackMsg :: s.queue, ev := s.ev ||| 0x0400 } := by
  simp [pushAck, hasRoom, h, pushHead_of_room h, State.raise, Event.mask, Event.code]

/-- The push of an owed ACK on a full queue. -/
theorem pushAck_of_full {s : State} (h : s.cfg.txqDepth ≤ s.queue.length) :
    pushAck s = { s with txqOvf := true, ev := s.ev ||| 0x2000 } := by
  simp [pushAck, hasRoom, Nat.not_lt.2 h, pushHead_of_full h]

/-! The fatal transition and reset -/

theorem enterDead_eq (s : State) : enterDead s = { s with arbState := .dead, ev := s.ev ||| 0x8000 } := rfl

theorem resetCore_eq (s : State) :
    resetCore s = { State.reset with cfg := s.cfg, stim := s.stim.next } := rfl

end Sys2Proof.Machine
end

