-- ==== Sys2Proof/Laws/PerInstr.lean ====
section
/-! SUPPORT. Families of statements made once per operation. -/

/-- The encoder writes an operation's word for the table of the operation's own format (R95). -/
def Sys2Proof.Laws.EncodedFormat.Statement (i : Sys2Proof.Instr) : Prop :=
  (Sys2Proof.encode i).formats.contains i.format = true

namespace Sys2Proof.Laws

theorem EncodedFormat.decDisabled : EncodedFormat.Statement .decDisabled := rfl

theorem EncodedFormat.decHandoff : EncodedFormat.Statement .decHandoff := rfl

theorem EncodedFormat.decDrop : EncodedFormat.Statement .decDrop := rfl

theorem EncodedFormat.decOfferHold : EncodedFormat.Statement .decOfferHold := rfl

theorem EncodedFormat.decAbort : EncodedFormat.Statement .decAbort := rfl

theorem EncodedFormat.decIdle : EncodedFormat.Statement .decIdle := rfl

theorem EncodedFormat.decSync : EncodedFormat.Statement .decSync := rfl

theorem EncodedFormat.decHuntSkip (b : Byte) : EncodedFormat.Statement (.decHuntSkip b) := rfl

theorem EncodedFormat.decLenOk (b : Byte) : EncodedFormat.Statement (.decLenOk b) := rfl

theorem EncodedFormat.decLenBad (b : Byte) : EncodedFormat.Statement (.decLenBad b) := rfl

theorem EncodedFormat.decUnstuff (b : Byte) : EncodedFormat.Statement (.decUnstuff b) := rfl

theorem EncodedFormat.decEsc : EncodedFormat.Statement .decEsc := rfl

theorem EncodedFormat.decData (b : Byte) : EncodedFormat.Statement (.decData b) := rfl

theorem EncodedFormat.decTrailer (b : Byte) : EncodedFormat.Statement (.decTrailer b) := rfl

theorem EncodedFormat.decComplete (b : Byte) : EncodedFormat.Statement (.decComplete b) := rfl

theorem EncodedFormat.csumCompute (p : List Byte) : EncodedFormat.Statement (.csumCompute p) := rfl

theorem EncodedFormat.csumCheck (p : List Byte) (lo hi : Byte) : EncodedFormat.Statement (.csumCheck p lo hi) := rfl

theorem EncodedFormat.csumGen (p : List Byte) : EncodedFormat.Statement (.csumGen p) := rfl

theorem EncodedFormat.encFrame (m : TxMsg) : EncodedFormat.Statement (.encFrame m) := rfl

theorem EncodedFormat.encStuff (b : Byte) : EncodedFormat.Statement (.encStuff b) := rfl

theorem EncodedFormat.ctlHalted : EncodedFormat.Statement .ctlHalted := rfl

theorem EncodedFormat.ctlStop : EncodedFormat.Statement .ctlStop := rfl

theorem EncodedFormat.ctlStart : EncodedFormat.Statement .ctlStart := rfl

theorem EncodedFormat.ctlIdle : EncodedFormat.Statement .ctlIdle := rfl

theorem EncodedFormat.arbSelectSkip : EncodedFormat.Statement .arbSelectSkip := rfl

theorem EncodedFormat.arbSelectSend : EncodedFormat.Statement .arbSelectSend := rfl

theorem EncodedFormat.arbSelectEmpty : EncodedFormat.Statement .arbSelectEmpty := rfl

theorem EncodedFormat.txError : EncodedFormat.Statement .txError := rfl

theorem EncodedFormat.txLast : EncodedFormat.Statement .txLast := rfl

theorem EncodedFormat.txByte : EncodedFormat.Statement .txByte := rfl

theorem EncodedFormat.txStall : EncodedFormat.Statement .txStall := rfl

theorem EncodedFormat.arbWaitRecv : EncodedFormat.Statement .arbWaitRecv := rfl

theorem EncodedFormat.arbWaitTimeout : EncodedFormat.Statement .arbWaitTimeout := rfl

theorem EncodedFormat.arbWaitTick : EncodedFormat.Statement .arbWaitTick := rfl

theorem EncodedFormat.arbClsUnsolicited : EncodedFormat.Statement .arbClsUnsolicited := rfl

theorem EncodedFormat.arbClsIdle : EncodedFormat.Statement .arbClsIdle := rfl

theorem EncodedFormat.arbClsRetry : EncodedFormat.Statement .arbClsRetry := rfl

theorem EncodedFormat.arbClsUnexpected : EncodedFormat.Statement .arbClsUnexpected := rfl

theorem EncodedFormat.arbClsMatch : EncodedFormat.Statement .arbClsMatch := rfl

theorem EncodedFormat.arbDispatchDone : EncodedFormat.Statement .arbDispatchDone := rfl

theorem EncodedFormat.arbDispatchHold : EncodedFormat.Statement .arbDispatchHold := rfl

theorem EncodedFormat.qCmdBad (head : Bool) (len : Byte) (payload : Lanes) (expect : TypeSet) : EncodedFormat.Statement (.qCmdBad head len payload expect) := rfl

theorem EncodedFormat.qSend (len : Byte) (payload : Lanes) (expect : TypeSet) : EncodedFormat.Statement (.qSend len payload expect) := rfl

theorem EncodedFormat.qSendPriority (len : Byte) (payload : Lanes) (expect : TypeSet) : EncodedFormat.Statement (.qSendPriority len payload expect) := rfl

theorem EncodedFormat.qPop : EncodedFormat.Statement .qPop := rfl

theorem EncodedFormat.qPushHead (m : TxMsg) : EncodedFormat.Statement (.qPushHead m) := rfl

theorem EncodedFormat.qPushOvf (m : TxMsg) : EncodedFormat.Statement (.qPushOvf m) := rfl

end Sys2Proof.Laws
end

