-- ==== Sys2Proof/Laws/RunEnd.lean ====
section
/-! SUPPORT. The conditions of the end of a run (R299), each as the conjunction it stands for. -/

namespace Sys2Proof.Machine

theorem undriven_iff (x : Inputs) :
    x.undriven = true ↔ x.rst = false ∧ x.rxValid = false ∧ x.rxError = false ∧ x.txReady = true ∧
      x.txError = false ∧ x.cmdValid = false ∧ x.msgReady = true ∧ x.ctrlStart = false ∧ x.ctrlStop = false := by
  simp [Inputs.undriven, and_assoc]

theorem quiet_undriven : Inputs.quiet.undriven = true := by decide

theorem quiescent_iff (s : State) :
    quiescent s = true ↔ (s.arbState = .wait ∨ s.arbState = .off) ∧ s.decState = .hunt ∧ s.queue = [] ∧
      s.arbSkip = false ∧ s.arbExpect = 0 := by
  simp [quiescent, and_assoc]

/-- After the last stimulus every line has started and its hold, if it has one, is over. -/
theorem afterLast_iff (d : Driver) :
    d.afterLast = true ↔
      ∀ l ∈ d.lines, l.cycle < d.now ∧ l.cycle + l.act.txSpan ≤ d.now ∧ l.cycle + l.act.msgSpan ≤ d.now := by
  simp only [Driver.afterLast, List.all_eq_true, decide_eq_true_eq]
  exact forall₂_congr fun l _ => by unfold Action.span; omega

theorem offering_eq_false_iff (d : Driver) : d.offering = false ↔ d.rxLeft = [] ∧ d.cmdLeft = [] := by
  simp [Driver.offering]

end Sys2Proof.Machine
end

