-- ==== Sys2Proof/Laws/Step.lean ====
section
/-! SUPPORT. What a step can do: which operation each agent performs and under which condition, what each agent's
operations leave unchanged, and a step taken apart into its operations. -/

namespace Sys2Proof.Machine

/-! Which operation -/

theorem decoderOp_format (s : State) : (decoderOp s).format = .dec ∨ (decoderOp s).format = .rx := by
  unfold decoderOp selectDecoder
  iterate 14
    refine iteInduction (motive := fun i : Instr => i.format = .dec ∨ i.format = .rx) (fun _ => ?_) (fun _ => ?_)
    · first | exact .inl rfl | exact .inr rfl
  exact .inr rfl

theorem arbiterOp_format (s : State) :
    (arbiterOp s).format = .arb ∨ (arbiterOp s).format = .tx ∨ (arbiterOp s).format = .ctl := by
  unfold arbiterOp selectArbiter
  iterate 20
    refine iteInduction (motive := fun i : Instr => i.format = .arb ∨ i.format = .tx ∨ i.format = .ctl)
      (fun _ => ?_) (fun _ => ?_)
    · first | exact .inl rfl | exact .inr (.inl rfl) | exact .inr (.inr rfl)
  exact .inl rfl

theorem commandOp_format {s : State} {c : Instr} (h : commandOp s = some c) : c.format = .cmd := by
  unfold commandOp selectCommand at h
  split_ifs at h <;> cases h <;> rfl

/-- The decoder's operation, case by case, from the key (R94). -/
theorem selectDecoder_cases (k : DecoderKey) :
    (selectDecoder k = .decDisabled ∧ (k.arbState.running = false ∨ k.ctrlStop = true ∨
      (k.arbState = .tx ∧ k.txError = true))) ∨
    ((k.arbState.running = true ∧ k.ctrlStop = false ∧ (k.arbState = .tx → k.txError = false)) ∧
     ((selectDecoder k = .decHandoff ∧ k.decState = .offer ∧ k.arbState = .wait) ∨
      (selectDecoder k = .decDrop ∧ k.decState = .offer ∧ k.arbState ≠ .wait ∧ k.handoffLast = true) ∨
      (selectDecoder k = .decOfferHold ∧ k.decState = .offer ∧ k.arbState ≠ .wait ∧ k.handoffLast = false) ∨
      (selectDecoder k = .decAbort ∧ k.rxError = true ∧ (k.decState = .len ∨ k.decState = .body)) ∨
      (selectDecoder k = .decIdle ∧ k.decState ≠ .offer ∧
        ((k.rxError = true ∧ k.decState = .hunt) ∨ (k.rxError = false ∧ k.rxValid = false))) ∨
      ((k.rxError = false ∧ k.rxValid = true) ∧
       ((selectDecoder k = .decSync ∧ k.decState = .hunt ∧ k.b = 0x7E) ∨
        (selectDecoder k = .decHuntSkip k.b ∧ k.decState = .hunt ∧ k.b ≠ 0x7E) ∨
        (selectDecoder k = .decLenOk k.b ∧ k.decState = .len ∧ 3 ≤ k.b.toNat) ∨
        (selectDecoder k = .decLenBad k.b ∧ k.decState = .len ∧ k.b.toNat < 3) ∨
        (selectDecoder k = .decUnstuff k.b ∧ k.decState = .body ∧ k.decEsc = true) ∨
        (selectDecoder k = .decEsc ∧ k.decState = .body ∧ k.decEsc = false ∧
          k.decIdx.toNat + 2 < k.decLen.toNat ∧ k.b = 0x7D) ∨
        (selectDecoder k = .decData k.b ∧ k.decState = .body ∧ k.decEsc = false ∧
          k.decIdx.toNat + 2 < k.decLen.toNat ∧ k.b ≠ 0x7D) ∨
        (selectDecoder k = .decTrailer k.b ∧ k.decState = .body ∧ k.decEsc = false ∧
          k.decIdx.toNat + 2 = k.decLen.toNat) ∨
        (selectDecoder k = .decComplete k.b ∧ k.decState = .body ∧ k.decEsc = false ∧
          k.decLen.toNat < k.decIdx.toNat + 2))))) := by
  cases k with
  | mk a cs te d hl re rv b esc len idx =>
    unfold selectDecoder
    simp only [DecoderKey.kill, DecoderKey.rxhs, rxReadyOf, startByte, escByte]
    cases a <;> cases cs <;> simp only [ArbState.running, ArbState.halted] <;> try simp
    all_goals cases d <;> try simp
    all_goals cases te <;> try simp
    all_goals try (cases re <;> try simp)
    all_goals try (cases rv <;> try simp)
    all_goals try (cases esc <;> try simp)
    all_goals first
      | (by_cases h : b = 126#8 <;> simp [h])
      | (by_cases h : 3 ≤ b.toNat <;> simp [h] <;> omega)
      | (by_cases h : idx.toNat + 2 < len.toNat <;> by_cases h1 : b = 125#8 <;>
          by_cases h2 : idx.toNat + 2 = len.toNat <;> simp [h, h1, h2] <;> omega)

/-- The arbiter's operation, case by case, from the key (R94). -/
theorem selectArbiter_cases (k : ArbiterKey) :
    (selectArbiter k = .ctlHalted ∧ (k.arbState = .dead ∨ k.arbState = .stopped)) ∨
    (selectArbiter k = .ctlStop ∧ k.arbState ≠ .dead ∧ k.arbState ≠ .stopped ∧ k.ctrlStop = true) ∨
    (k.ctrlStop = false ∧
     ((selectArbiter k = .ctlStart ∧ k.arbState = .off ∧ k.ctrlStart = true) ∨
      (selectArbiter k = .ctlIdle ∧ k.arbState = .off ∧ k.ctrlStart = false) ∨
      (selectArbiter k = .arbSelectSkip ∧ k.arbState = .select ∧ k.arbSkip = true) ∨
      (selectArbiter k = .arbSelectSend ∧ k.arbState = .select ∧ k.arbSkip = false ∧ 0 < k.qCount) ∨
      (selectArbiter k = .arbSelectEmpty ∧ k.arbState = .select ∧ k.arbSkip = false ∧ k.qCount = 0) ∨
      (selectArbiter k = .txError ∧ k.arbState = .tx ∧ k.txError = true) ∨
      (selectArbiter k = .txLast ∧ k.arbState = .tx ∧ k.txError = false ∧ k.txReady = true ∧ k.txAtLast = true) ∨
      (selectArbiter k = .txByte ∧ k.arbState = .tx ∧ k.txError = false ∧ k.txReady = true ∧ k.txAtLast = false) ∨
      (selectArbiter k = .txStall ∧ k.arbState = .tx ∧ k.txError = false ∧ k.txReady = false) ∨
      (selectArbiter k = .arbWaitRecv ∧ k.arbState = .wait ∧ k.decState = .offer) ∨
      (selectArbiter k = .arbWaitTimeout ∧ k.arbState = .wait ∧ k.decState ≠ .offer ∧ k.replyLast = true) ∨
      (selectArbiter k = .arbWaitTick ∧ k.arbState = .wait ∧ k.decState ≠ .offer ∧ k.replyLast = false) ∨
      (selectArbiter k = .arbClsUnsolicited ∧ k.arbState = .classify ∧ k.expectEmpty = true ∧
        k.rxPresent = true) ∨
      (selectArbiter k = .arbClsIdle ∧ k.arbState = .classify ∧ k.expectEmpty = true ∧ k.rxPresent = false) ∨
      (selectArbiter k = .arbClsRetry ∧ k.arbState = .classify ∧ k.expectEmpty = false ∧ k.rxPresent = false) ∨
      (selectArbiter k = .arbClsUnexpected ∧ k.arbState = .classify ∧ k.expectEmpty = false ∧
        k.rxPresent = true ∧ k.expectHit = false) ∨
      (selectArbiter k = .arbClsMatch ∧ k.arbState = .classify ∧ k.expectEmpty = false ∧
        k.rxPresent = true ∧ k.expectHit = true) ∨
      (selectArbiter k = .arbDispatchDone ∧ k.arbState = .dispatch ∧ k.msgReady = true) ∨
      (selectArbiter k = .arbDispatchHold ∧ k.arbState = .dispatch ∧ k.msgReady = false))) := by
  cases k with
  | mk a cs ct sk q te tr tl d rl ee rp eh mr =>
    unfold selectArbiter
    cases a <;> cases cs <;> simp [ArbState.halted]
    case mk.select.false => cases sk <;> simp; omega
    case mk.tx.false => cases te <;> simp; cases tr <;> simp
    case mk.wait.false => cases d <;> simp
    case mk.classify.false => cases ee <;> simp; cases rp <;> simp

/-- The host's operation, case by case, from the key (R94). -/
theorem selectCommand_cases (k : CommandKey) :
    (selectCommand k = none ∧ (k.cmdValid = false ∨ k.cmdReady = false)) ∨
    ((k.cmdValid = true ∧ k.cmdReady = true) ∧
     ((selectCommand k = some (.qCmdBad k.cmdHead k.cmdLen k.cmdPayload k.cmdExpect) ∧
        commandLengthOk k.cmdLen = false) ∨
      (selectCommand k = some (.qSend k.cmdLen k.cmdPayload k.cmdExpect) ∧
        commandLengthOk k.cmdLen = true ∧ k.cmdHead = false) ∨
      (selectCommand k = some (.qSendPriority k.cmdLen k.cmdPayload k.cmdExpect) ∧
        commandLengthOk k.cmdLen = true ∧ k.cmdHead = true))) := by
  cases k with
  | mk v r h l p e =>
    have hz : l = 0 ↔ l.toNat = 0 := by rw [← BitVec.toNat_inj]; rfl
    have hok : commandLengthOk l = false ↔ (l = 0 ∨ 253 < l.toNat) := by
      rw [hz]; simp [commandLengthOk]; omega
    unfold selectCommand
    cases v <;> cases r
    case mk.true.true =>
      by_cases h1 : l = 0 ∨ 253 < l.toNat
      · exact .inr ⟨⟨rfl, rfl⟩, .inl ⟨by simp only [if_pos h1]; rfl, hok.2 h1⟩⟩
      · have h2 : commandLengthOk l = true := by simpa using mt hok.1 h1
        cases h
        · exact .inr ⟨⟨rfl, rfl⟩, .inr (.inl ⟨by simp only [if_neg h1]; rfl, h2, rfl⟩)⟩
        · exact .inr ⟨⟨rfl, rfl⟩, .inr (.inr ⟨by simp only [if_neg h1]; rfl, h2, rfl⟩)⟩
    all_goals exact .inl ⟨rfl, by simp⟩

/-- The decoder's operation of a cycle without reset, case by case (R94, R110 to R125). -/
theorem decoderOp_cases (s : State) :
    (decoderOp s = .decDisabled ∧ (s.arbState.running = false ∨ (inputsNow s).ctrlStop = true ∨
      (s.arbState = .tx ∧ (inputsNow s).txError = true))) ∨
    ((s.arbState.running = true ∧ (inputsNow s).ctrlStop = false ∧
        (s.arbState = .tx → (inputsNow s).txError = false)) ∧
     ((decoderOp s = .decHandoff ∧ s.decState = .offer ∧ s.arbState = .wait) ∨
      (decoderOp s = .decDrop ∧ s.decState = .offer ∧ s.arbState ≠ .wait ∧ s.decTimer + 1 = s.cfg.tHandoff) ∨
      (decoderOp s = .decOfferHold ∧ s.decState = .offer ∧ s.arbState ≠ .wait ∧ s.decTimer + 1 ≠ s.cfg.tHandoff) ∨
      (decoderOp s = .decAbort ∧ (inputsNow s).rxError = true ∧ (s.decState = .len ∨ s.decState = .body)) ∨
      (decoderOp s = .decIdle ∧ s.decState ≠ .offer ∧
        (((inputsNow s).rxError = true ∧ s.decState = .hunt) ∨
         ((inputsNow s).rxError = false ∧ (inputsNow s).rxValid = false))) ∨
      (((inputsNow s).rxError = false ∧ (inputsNow s).rxValid = true) ∧
       ((decoderOp s = .decSync ∧ s.decState = .hunt ∧ (inputsNow s).rxData = 0x7E) ∨
        (decoderOp s = .decHuntSkip (inputsNow s).rxData ∧ s.decState = .hunt ∧ (inputsNow s).rxData ≠ 0x7E) ∨
        (decoderOp s = .decLenOk (inputsNow s).rxData ∧ s.decState = .len ∧ 3 ≤ (inputsNow s).rxData.toNat) ∨
        (decoderOp s = .decLenBad (inputsNow s).rxData ∧ s.decState = .len ∧ (inputsNow s).rxData.toNat < 3) ∨
        (decoderOp s = .decUnstuff (inputsNow s).rxData ∧ s.decState = .body ∧ s.decEsc = true) ∨
        (decoderOp s = .decEsc ∧ s.decState = .body ∧ s.decEsc = false ∧
          s.decIdx.toNat + 2 < s.decLen.toNat ∧ (inputsNow s).rxData = 0x7D) ∨
        (decoderOp s = .decData (inputsNow s).rxData ∧ s.decState = .body ∧ s.decEsc = false ∧
          s.decIdx.toNat + 2 < s.decLen.toNat ∧ (inputsNow s).rxData ≠ 0x7D) ∨
        (decoderOp s = .decTrailer (inputsNow s).rxData ∧ s.decState = .body ∧ s.decEsc = false ∧
          s.decIdx.toNat + 2 = s.decLen.toNat) ∨
        (decoderOp s = .decComplete (inputsNow s).rxData ∧ s.decState = .body ∧ s.decEsc = false ∧
          s.decLen.toNat < s.decIdx.toNat + 2))))) := by
  have h := selectDecoder_cases (decoderKeyOf s)
  have e1 : (decoderKeyOf s).handoffLast = true ↔ s.decTimer + 1 = s.cfg.tHandoff := decide_eq_true_iff
  have e2 : (decoderKeyOf s).handoffLast = false ↔ s.decTimer + 1 ≠ s.cfg.tHandoff := decide_eq_false_iff_not
  rw [e1, e2] at h
  exact h

/-- The arbiter's operation of a cycle without reset, case by case (R94, R162 to R165, R180 to R193, R240 to R243). -/
theorem arbiterOp_cases (s : State) :
    (arbiterOp s = .ctlHalted ∧ (s.arbState = .dead ∨ s.arbState = .stopped)) ∨
    (arbiterOp s = .ctlStop ∧ s.arbState ≠ .dead ∧ s.arbState ≠ .stopped ∧ (inputsNow s).ctrlStop = true) ∨
    ((inputsNow s).ctrlStop = false ∧
     ((arbiterOp s = .ctlStart ∧ s.arbState = .off ∧ (inputsNow s).ctrlStart = true) ∨
      (arbiterOp s = .ctlIdle ∧ s.arbState = .off ∧ (inputsNow s).ctrlStart = false) ∨
      (arbiterOp s = .arbSelectSkip ∧ s.arbState = .select ∧ s.arbSkip = true) ∨
      (arbiterOp s = .arbSelectSend ∧ s.arbState = .select ∧ s.arbSkip = false ∧ 0 < s.queue.length) ∨
      (arbiterOp s = .arbSelectEmpty ∧ s.arbState = .select ∧ s.arbSkip = false ∧ s.queue.length = 0) ∨
      (arbiterOp s = .txError ∧ s.arbState = .tx ∧ (inputsNow s).txError = true) ∨
      (arbiterOp s = .txLast ∧ s.arbState = .tx ∧ (inputsNow s).txError = false ∧ (inputsNow s).txReady = true ∧
        s.txPos.toNat + 1 = (curFrame s).length) ∨
      (arbiterOp s = .txByte ∧ s.arbState = .tx ∧ (inputsNow s).txError = false ∧ (inputsNow s).txReady = true ∧
        s.txPos.toNat + 1 ≠ (curFrame s).length) ∨
      (arbiterOp s = .txStall ∧ s.arbState = .tx ∧ (inputsNow s).txError = false ∧
        (inputsNow s).txReady = false) ∨
      (arbiterOp s = .arbWaitRecv ∧ s.arbState = .wait ∧ s.decState = .offer) ∨
      (arbiterOp s = .arbWaitTimeout ∧ s.arbState = .wait ∧ s.decState ≠ .offer ∧
        s.arbTimer + 1 = s.cfg.tReply) ∨
      (arbiterOp s = .arbWaitTick ∧ s.arbState = .wait ∧ s.decState ≠ .offer ∧ s.arbTimer + 1 ≠ s.cfg.tReply) ∨
      (arbiterOp s = .arbClsUnsolicited ∧ s.arbState = .classify ∧ s.arbExpect = 0 ∧ s.rxPresent = true) ∨
      (arbiterOp s = .arbClsIdle ∧ s.arbState = .classify ∧ s.arbExpect = 0 ∧ s.rxPresent = false) ∨
      (arbiterOp s = .arbClsRetry ∧ s.arbState = .classify ∧ s.arbExpect ≠ 0 ∧ s.rxPresent = false) ∨
      (arbiterOp s = .arbClsUnexpected ∧ s.arbState = .classify ∧ s.arbExpect ≠ 0 ∧
        s.rxPresent = true ∧ s.arbExpect.getLsbD (msgType s.rx.p).toNat = false) ∨
      (arbiterOp s = .arbClsMatch ∧ s.arbState = .classify ∧ s.arbExpect ≠ 0 ∧
        s.rxPresent = true ∧ s.arbExpect.getLsbD (msgType s.rx.p).toNat = true) ∨
      (arbiterOp s = .arbDispatchDone ∧ s.arbState = .dispatch ∧ (inputsNow s).msgReady = true) ∨
      (arbiterOp s = .arbDispatchHold ∧ s.arbState = .dispatch ∧ (inputsNow s).msgReady = false))) := by
  have h := selectArbiter_cases (arbiterKeyOf s)
  have e1 : (arbiterKeyOf s).txAtLast = true ↔ s.txPos.toNat + 1 = (curFrame s).length := decide_eq_true_iff
  have e2 : (arbiterKeyOf s).txAtLast = false ↔ s.txPos.toNat + 1 ≠ (curFrame s).length :=
    decide_eq_false_iff_not
  have e3 : (arbiterKeyOf s).replyLast = true ↔ s.arbTimer + 1 = s.cfg.tReply := decide_eq_true_iff
  have e4 : (arbiterKeyOf s).replyLast = false ↔ s.arbTimer + 1 ≠ s.cfg.tReply := decide_eq_false_iff_not
  have e5 : (arbiterKeyOf s).expectEmpty = true ↔ s.arbExpect = 0 := decide_eq_true_iff
  have e6 : (arbiterKeyOf s).expectEmpty = false ↔ s.arbExpect ≠ 0 := decide_eq_false_iff_not
  rw [e1, e2, e3, e4, e5, e6] at h
  exact h

/-- The host's operation of a cycle without reset, case by case (R94, R220 to R223). -/
theorem commandOp_cases (s : State) :
    (commandOp s = none ∧ ((inputsNow s).cmdValid = false ∨ cmdReady s = false)) ∨
    (((inputsNow s).cmdValid = true ∧ cmdReady s = true) ∧
     ((commandOp s = some (.qCmdBad (inputsNow s).cmdHead (inputsNow s).cmdLen (inputsNow s).cmdPayload
          (inputsNow s).cmdExpect) ∧ commandLengthOk (inputsNow s).cmdLen = false) ∨
      (commandOp s = some (.qSend (inputsNow s).cmdLen (inputsNow s).cmdPayload (inputsNow s).cmdExpect) ∧
        commandLengthOk (inputsNow s).cmdLen = true ∧ (inputsNow s).cmdHead = false) ∨
      (commandOp s = some (.qSendPriority (inputsNow s).cmdLen (inputsNow s).cmdPayload (inputsNow s).cmdExpect) ∧
        commandLengthOk (inputsNow s).cmdLen = true ∧ (inputsNow s).cmdHead = true))) :=
  selectCommand_cases (commandKeyOf s)

/-- When the command port is ready (R41, R220). -/
theorem cmdReady_iff (s : State) :
    cmdReady s = true ↔ s.arbState ≠ .dead ∧ s.arbState ≠ .stopped ∧ s.queue.length + 2 < s.cfg.txqDepth := by
  unfold cmdReady hostLimit
  cases s.arbState <;> simp [ArbState.halted] <;> omega

/-! What the operations of one agent leave unchanged -/

/-- Every operation's body but ARB.SELECT_SEND's answers a next state whatever the state. -/
theorem exec_next {i : Instr} (hi : i ≠ .arbSelectSend) (s : State) : ∃ t, exec i s = .next t := by
  cases i
  case arbSelectSend => exact absurd rfl hi
  all_goals exact ⟨_, rfl⟩

/-- A decoder operation writes the decoder's registers, the events and the decoder's unwritten status. -/
theorem exec_decoder_frame {i : Instr} {s t : State} (hi : i.format = .dec ∨ i.format = .rx)
    (h : exec i s = .next t) :
    t.cfg = s.cfg ∧ t.stim = s.stim ∧ t.arbState = s.arbState ∧ t.arbSkip = s.arbSkip ∧
    t.arbExpect = s.arbExpect ∧ t.cur = s.cur ∧ t.txPos = s.txPos ∧ t.arbTimer = s.arbTimer ∧
    t.rxPresent = s.rxPresent ∧ t.rx = s.rx ∧ t.queue = s.queue ∧ t.txqOvf = s.txqOvf ∧ t.ret = s.ret ∧
    t.written.cur = s.written.cur ∧ t.written.txPos = s.written.txPos ∧
    t.written.arbTimer = s.written.arbTimer ∧ t.written.rx = s.written.rx := by
  cases i <;> try (rcases hi with hi | hi <;> cases hi; done)
  all_goals cases h; simp [toHunt, storeByte]

/-- A host operation on the queue writes the queue and the events. -/
theorem exec_command_frame {i : Instr} {s t : State} (hi : i.format = .cmd) (h : exec i s = .next t) :
    t = { s with queue := t.queue, ev := t.ev } := by
  cases i <;> first
    | (cases hi; done)
    | (cases h; rfl)

/-- `route()` writes `arb_state` and the events alone. -/
theorem route_shape (s : State) : ∃ a e, route s = { s with arbState := a, ev := e } := by
  unfold route
  split
  · exact ⟨_, _, rfl⟩
  · split <;> exact ⟨_, _, rfl⟩

/-- An internal push writes the queue, its overflow flag and the events alone. -/
theorem pushHead_shape (m : TxMsg) (s : State) :
    ∃ q o e, pushHead m s = { s with queue := q, txqOvf := o, ev := e } := by
  unfold pushHead
  split <;> exact ⟨_, _, _, rfl⟩

/-- So does the push of an ACK where one is owed. -/
theorem ackIfOwed_shape (s : State) :
    ∃ q o e, (if ackRequired s.cfg (msgType s.rx.p) = true then pushAck s else s) =
      { s with queue := q, txqOvf := o, ev := e } := by
  obtain ⟨q, o, e, h⟩ := pushHead_shape ackMsg s
  split
  · unfold pushAck
    rw [h]
    split <;> exact ⟨_, _, _, rfl⟩
  · exact ⟨_, _, _, rfl⟩

/-- An arbiter operation writes the arbiter's registers, the queue, its overflow flag, the events and the arbiter's
unwritten status. -/
theorem exec_arbiter_frame {i : Instr} {s t : State} (hi : i.format = .arb ∨ i.format = .tx ∨ i.format = .ctl)
    (h : exec i s = .next t) :
    t.cfg = s.cfg ∧ t.stim = s.stim ∧ t.decState = s.decState ∧ t.decLen = s.decLen ∧ t.decIdx = s.decIdx ∧
    t.decEsc = s.decEsc ∧ t.decBuf = s.decBuf ∧ t.decOk = s.decOk ∧ t.decTimer = s.decTimer ∧ t.ret = s.ret ∧
    t.written.decLen = s.written.decLen ∧ t.written.decIdx = s.written.decIdx ∧
    t.written.decOk = s.written.decOk ∧ t.written.decTimer = s.written.decTimer := by
  cases i <;> try (rcases hi with hi | hi | hi <;> cases hi; done)
  case arbSelectSend =>
    unfold exec execArbSelectSend at h
    cases hq : s.queue <;> rw [hq] at h <;> cases h
    simp
  case arbClsUnsolicited =>
    cases h
    obtain ⟨q, o, e, h1⟩ := ackIfOwed_shape s
    obtain ⟨a, e2, h2⟩ := route_shape (if ackRequired s.cfg (msgType s.rx.p) = true then pushAck s else s)
    rw [h2, h1]; exact ⟨rfl, rfl, rfl, rfl, rfl, rfl, rfl, rfl, rfl, rfl, rfl, rfl, rfl, rfl⟩
  case arbClsRetry =>
    cases h
    obtain ⟨q, o, e, h1⟩ := pushHead_shape s.cur s
    obtain ⟨a, e2, h2⟩ := route_shape ((pushHead s.cur s).raise .retry)
    rw [h2, h1]; exact ⟨rfl, rfl, rfl, rfl, rfl, rfl, rfl, rfl, rfl, rfl, rfl, rfl, rfl, rfl⟩
  case arbClsUnexpected =>
    cases h
    obtain ⟨q, o, e, h1⟩ := pushHead_shape s.cur s
    obtain ⟨a, e2, h2⟩ := route_shape (((pushHead s.cur s).setArbSkip true).raise .unexpected)
    rw [h2, h1]; exact ⟨rfl, rfl, rfl, rfl, rfl, rfl, rfl, rfl, rfl, rfl, rfl, rfl, rfl, rfl⟩
  case arbClsIdle =>
    cases h
    obtain ⟨a, e, h2⟩ := route_shape (s.raise .idleTimeout)
    rw [h2]; exact ⟨rfl, rfl, rfl, rfl, rfl, rfl, rfl, rfl, rfl, rfl, rfl, rfl, rfl, rfl⟩
  case arbClsMatch =>
    cases h
    obtain ⟨a, e, h2⟩ := route_shape (s.raise .matched)
    rw [h2]; exact ⟨rfl, rfl, rfl, rfl, rfl, rfl, rfl, rfl, rfl, rfl, rfl, rfl, rfl, rfl⟩
  all_goals cases h; simp [enterWait, enterDead]

/-! A step taken apart -/

theorem runOps_cons_next {i : Instr} {is : List Instr} {s t : State} (h : exec i s = .next t) :
    runOps (i :: is) s = runOps is t := by
  simp [runOps, h]

theorem runOps_append {is js : List Instr} {s t : State} (h : runOps is s = .next t) :
    runOps (is ++ js) s = runOps js t := by
  induction is generalizing s with
  | nil => cases h; rfl
  | cons i is ih =>
    cases he : exec i s <;> simp only [runOps, he] at h <;> simp only [List.cons_append, runOps, he]
    · exact ih h
    · cases h
    · cases h

theorem runOps_append_next {is js : List Instr} {s t : State} (h : runOps (is ++ js) s = .next t) :
    ∃ u, runOps is s = .next u ∧ runOps js u = .next t := by
  induction is generalizing s with
  | nil => exact ⟨s, rfl, h⟩
  | cons i is ih =>
    cases he : exec i s <;> simp only [List.cons_append, runOps, he] at h
    · obtain ⟨u, h1, h2⟩ := ih h
      exact ⟨u, by simpa [runOps, he] using h1, h2⟩
    · cases h
    · cases h

theorem runOps_single {i : Instr} {s t : State} (h : runOps [i] s = .next t) : exec i s = .next t := by
  cases he : exec i s <;> simp only [runOps, he] at h <;> cases h
  rfl

/-- A step with `rst = 0` that answers a next state, taken apart: the arbiter's dequeue, the host's operation if there
is one, then the arbiter's operation otherwise, then the decoder's (R66). -/
theorem step_next_parts {s t : State} (hr : (inputsNow s).rst = false) (h : step s = .next t) :
    ∃ u v, exec (decoderOp s) v = .next t ∧
      ((arbiterOp s = .arbSelectSend ∧ exec .arbSelectSend (beginCycle s) = .next u ∧
          runOps (commandOp s).toList u = .next v) ∨
       (arbiterOp s ≠ .arbSelectSend ∧ runOps (commandOp s).toList (beginCycle s) = .next u ∧
          exec (arbiterOp s) u = .next v)) := by
  unfold step cycle at h
  rw [hr] at h
  simp only [Bool.false_eq_true, if_false] at h
  unfold cycleOps at h
  split at h
  · rename_i ha
    rw [List.cons_append] at h
    cases he : exec (arbiterOp s) (beginCycle s) with
    | fault r => simp [runOps, he] at h
    | refused r => simp [runOps, he] at h
    | next u =>
      rw [runOps_cons_next he] at h
      obtain ⟨v, h1, h2⟩ := runOps_append_next h
      exact ⟨u, v, runOps_single h2, .inl ⟨ha, ha ▸ he, h1⟩⟩
  · rename_i ha
    obtain ⟨u, h1, h2⟩ := runOps_append_next h
    obtain ⟨v, h3, h4⟩ := runOps_append_next (is := [arbiterOp s]) h2
    exact ⟨u, v, runOps_single h4, .inr ⟨ha, h1, runOps_single h3⟩⟩

/-- What the host's operation of a cycle, if there is one, leaves unchanged. -/
theorem runOps_commandOp_frame {s u v : State} (h : runOps (commandOp s).toList u = .next v) :
    v = { u with queue := v.queue, ev := v.ev } := by
  cases hc : commandOp s with
  | none => rw [hc] at h; cases h; rfl
  | some c => rw [hc] at h; exact exec_command_frame (commandOp_format hc) (runOps_single h)

end Sys2Proof.Machine
end

