-- ==== Sys2Proof/Laws/Stimulus.lean ====
section
/-! SUPPORT. What the order of a test program's lines is (R96): a rearrangement by cycle that keeps the written order
within a cycle. -/

namespace Sys2Proof.Machine

theorem insertByCycle_perm {α : Type} (x : Nat × α) (xs : List (Nat × α)) : (insertByCycle x xs).Perm (x :: xs) := by
  induction xs with
  | nil => exact .refl _
  | cons y ys ih =>
    unfold insertByCycle
    split
    · exact .refl _
    · exact (ih.cons y).trans (.swap x y ys)

/-- No line is lost or made up. -/
theorem orderByCycle_perm {α : Type} (xs : List (Nat × α)) : (orderByCycle xs).Perm xs := by
  induction xs with
  | nil => exact .refl _
  | cons x xs ih => exact (insertByCycle_perm x _).trans (ih.cons x)

theorem insertByCycle_sorted {α : Type} (x : Nat × α) {xs : List (Nat × α)}
    (h : xs.Pairwise fun a b => a.1 ≤ b.1) : (insertByCycle x xs).Pairwise fun a b => a.1 ≤ b.1 := by
  induction xs with
  | nil => exact List.pairwise_singleton _ _
  | cons y ys ih =>
    have hy := List.pairwise_cons.1 h
    unfold insertByCycle
    split
    · next hxy =>
      refine List.pairwise_cons.2 ⟨fun z hz => ?_, h⟩
      rcases List.mem_cons.1 hz with rfl | hz
      · exact hxy
      · exact le_trans hxy (hy.1 z hz)
    · next hxy =>
      refine List.pairwise_cons.2 ⟨fun z hz => ?_, ih hy.2⟩
      rcases List.mem_cons.1 ((insertByCycle_perm x ys).mem_iff.1 hz) with rfl | hz
      · omega
      · exact hy.1 z hz

/-- An earlier line stands before a later one, wherever they are written. -/
theorem orderByCycle_sorted {α : Type} (xs : List (Nat × α)) :
    (orderByCycle xs).Pairwise fun a b => a.1 ≤ b.1 := by
  induction xs with
  | nil => exact .nil
  | cons x xs ih => exact insertByCycle_sorted x ih

theorem insertByCycle_filter {α : Type} (k : Nat) (x : Nat × α) (xs : List (Nat × α)) :
    (insertByCycle x xs).filter (fun y => y.1 == k) = (x :: xs).filter (fun y => y.1 == k) := by
  induction xs with
  | nil => rfl
  | cons y ys ih =>
    unfold insertByCycle
    split
    · rfl
    · next hxy =>
      rw [List.filter_cons, ih]
      have hne : x.1 ≠ y.1 := by omega
      by_cases hx : x.1 = k
      · have hy : y.1 ≠ k := fun e => hne (hx.trans e.symm)
        simp [hx, hy]
      · simp [hx, List.filter_cons]

/-- The lines of one cycle keep their written order. -/
theorem orderByCycle_filter {α : Type} (k : Nat) (xs : List (Nat × α)) :
    (orderByCycle xs).filter (fun y => y.1 == k) = xs.filter (fun y => y.1 == k) := by
  induction xs with
  | nil => rfl
  | cons x xs ih =>
    rw [orderByCycle, insertByCycle_filter, List.filter_cons, List.filter_cons, ih]

end Sys2Proof.Machine
end

