-- ==== Sys2Proof/Tests/Slice0.lean ====
section
/-! SUPPORT. The model's own tests. Expected values come from spec/: the operation map (R94, opcode_table.json), the
worked examples and tables of 95_test_vectors.md. Then, for each statement with hypotheses, states and operands that
meet them. -/

namespace Sys2Proof.Tests

set_option Elab.async false

open Sys2Proof Sys2Proof.Machine

/-! ## Helpers -/

/-- The parameters of 95_test_vectors.md. -/
def cfg : Params :=
  { tReply := 12, tHandoff := 16, txqDepth := 5, checksumAlg := .fletcher16,
    ackRequired := (BitVec.allOnes 256) <<< 128 }

/-- A state with arbiter state `a`, decoder state `d` and one cycle's inputs `i`, all else as after reset. -/
def st (a : ArbState) (d : DecState) (i : Inputs) : State :=
  { State.reset with cfg := cfg, stim := .single i, arbState := a, decState := d }

/-- Inputs that offer the byte `b`. -/
def rxIn (b : Byte) : Inputs := { Inputs.quiet with rxValid := true, rxData := b }

/-- Inputs that offer a command. -/
def cmdIn (head : Bool) (len : Byte) (v : Lanes) (e : TypeSet) : Inputs :=
  { Inputs.quiet with cmdValid := true, cmdHead := head, cmdLen := len, cmdPayload := v, cmdExpect := e }

/-- The state after a step, where there is one. -/
def nextOf (s : State) : Option State :=
  match step s with
  | .next t => some t
  | .fault _ => none
  | .refused _ => none

/-- The state after the body of one operation, where there is one. -/
def bodyOf (i : Instr) (s : State) : Option State :=
  match exec i s with
  | .next t => some t
  | .fault _ => none
  | .refused _ => none

/-- What holds of the state after `n` steps. -/
def holdsAfter (n : Nat) (s : State) (p : State → Bool) : Bool :=
  match Host.Core.run Sys2Proof.core n s with
  | .next t => p t
  | .fault _ => false
  | .refused _ => false

theorem of_holdsAfter {n : Nat} {s t : State} {p : State → Bool} (h : holdsAfter n s p = true) (hr : RunsTo n s t) :
    p t = true := by
  unfold RunsTo at hr
  unfold holdsAfter at h
  rw [hr] at h
  exact h

theorem step_of_nextOf {s t : State} (h : nextOf s = some t) : step s = .next t := by
  unfold nextOf at h
  split at h
  · rename_i hs
    rw [hs]
    exact congrArg _ (Option.some.inj h)
  · cases h
  · cases h

/-- Messages of 95_test_vectors.md §2.4. -/
def mA : TxMsg := { n := 1, p := [0x10], e := 1#256 <<< 0x10 }

def mB : TxMsg := { n := 1, p := [0x21], e := 0 }

/-- The payload of the end-to-end scenario (L1.5). -/
def mE : TxMsg := { n := 2, p := [0x01, 0x7D], e := 0 }

/-! ## WellFormed: an ill-formed term for each check -/

theorem test_wf_refuses_hunt_skip_start : Instr.wellFormed (Instr.decHuntSkip 0x7E) = false := by decide

theorem test_wf_refuses_len_ok_two : Instr.wellFormed (Instr.decLenOk 2) = false := by decide

theorem test_wf_refuses_len_bad_three : Instr.wellFormed (Instr.decLenBad 3) = false := by decide

theorem test_wf_refuses_data_escape : Instr.wellFormed (Instr.decData 0x7D) = false := by decide

theorem test_wf_refuses_compute_empty : Instr.wellFormed (Instr.csumCompute []) = false := by decide

theorem test_wf_refuses_compute_too_long : Instr.wellFormed (Instr.csumCompute (List.replicate 254 0)) = false :=
  by decide +kernel

theorem test_wf_refuses_check_empty : Instr.wellFormed (Instr.csumCheck [] 0 0) = false := by decide

theorem test_wf_refuses_gen_empty : Instr.wellFormed (Instr.csumGen []) = false := by decide

theorem test_wf_refuses_frame_count : Instr.wellFormed (Instr.encFrame { n := 2, p := [0x10], e := 0 }) = false :=
  by decide

theorem test_wf_refuses_cmd_bad_of_good_length : Instr.wellFormed (Instr.qCmdBad false 253 0 0) = false := by decide

theorem test_wf_refuses_send_zero : Instr.wellFormed (Instr.qSend 0 0 0) = false := by decide

theorem test_wf_refuses_send_254 : Instr.wellFormed (Instr.qSend 254 0 0) = false := by decide

theorem test_wf_refuses_send_priority_255 : Instr.wellFormed (Instr.qSendPriority 255 0 0) = false := by decide

theorem test_wf_refuses_push_head_empty : Instr.wellFormed (Instr.qPushHead { n := 0, p := [], e := 0 }) = false :=
  by decide

theorem test_wf_refuses_push_ovf_count : Instr.wellFormed (Instr.qPushOvf { n := 2, p := [1], e := 0 }) = false :=
  by decide

theorem test_wf_limits :
    Instr.wellFormed (.decLenOk 3) = true ∧ Instr.wellFormed (.decLenBad 2) = true ∧
    Instr.wellFormed (.qSend 1 0 0) = true ∧ Instr.wellFormed (.qSendPriority 253 0 0) = true ∧
    Instr.wellFormed (.qCmdBad true 254 0 0) = true ∧ Instr.wellFormed (.csumGen (List.replicate 253 0)) = true := by
  decide +kernel

/-! ## Decoding: for every operation a word written out from its row of R94 -/

/-- A decoder word: arbiter in SELECT, decoder in BODY at index 0 of a frame of length 5, nothing received. -/
def dw : DecoderKey :=
  { arbState := .select, ctrlStop := false, txError := false, decState := .body, handoffLast := false,
    rxError := false, rxValid := false, b := 0x55, decEsc := false, decLen := 5, decIdx := 0 }

/-- An arbiter word: arbiter in OFF, no input set, a queue of two entries, nothing received. -/
def aw : ArbiterKey :=
  { arbState := .off, ctrlStop := false, ctrlStart := false, arbSkip := false, qCount := 2, txError := false,
    txReady := false, txAtLast := false, decState := .body, replyLast := false, expectEmpty := true,
    rxPresent := false, expectHit := false, msgReady := false }

/-- A command word: a transfer at the tail of the message `21`. -/
def cw : CommandKey :=
  { cmdValid := true, cmdReady := true, cmdHead := false, cmdLen := 1, cmdPayload := 0x21, cmdExpect := 0 }

theorem test_decode_dec_disabled :
    decode (.decoder { dw with arbState := .stopped, decState := .offer }) = .op .decDisabled := by decide

theorem test_decode_dec_disabled_kill :
    decode (.decoder { dw with arbState := .tx, txError := true, rxValid := true }) = .op .decDisabled := by decide

theorem test_decode_dec_handoff :
    decode (.decoder { dw with arbState := .wait, decState := .offer, handoffLast := true, rxError := true }) = .op .decHandoff :=
  by decide

theorem test_decode_dec_drop :
    decode (.decoder { dw with decState := .offer, handoffLast := true }) = .op .decDrop := by decide

theorem test_decode_dec_offer_hold :
    decode (.decoder { dw with decState := .offer, rxValid := true }) = .op .decOfferHold := by decide

theorem test_decode_dec_abort :
    decode (.decoder { dw with decState := .len, rxError := true, rxValid := true }) = .op .decAbort := by decide

theorem test_decode_dec_idle :
    decode (.decoder { dw with decState := .hunt, rxError := true, rxValid := true, b := 0x7E }) = .op .decIdle :=
  by decide

theorem test_decode_dec_sync :
    decode (.decoder { dw with decState := .hunt, rxValid := true, b := 0x7E }) = .op .decSync := by decide

theorem test_decode_dec_hunt_skip :
    decode (.decoder { dw with decState := .hunt, rxValid := true, b := 0x7D }) = .op (.decHuntSkip 0x7D) := by decide

theorem test_decode_dec_len_ok :
    decode (.decoder { dw with decState := .len, rxValid := true, b := 0x03 }) = .op (.decLenOk 0x03) := by decide

theorem test_decode_dec_len_bad :
    decode (.decoder { dw with decState := .len, rxValid := true, b := 0x02 }) = .op (.decLenBad 0x02) := by decide

theorem test_decode_dec_unstuff :
    decode (.decoder { dw with rxValid := true, b := 0x7D, decEsc := true }) = .op (.decUnstuff 0x7D) := by decide

theorem test_decode_dec_esc :
    decode (.decoder { dw with rxValid := true, b := 0x7D, decIdx := 2 }) = .op .decEsc := by decide

theorem test_decode_dec_data :
    decode (.decoder { dw with rxValid := true, b := 0x7E, decIdx := 2 }) = .op (.decData 0x7E) := by decide

theorem test_decode_dec_trailer :
    decode (.decoder { dw with rxValid := true, b := 0x7D, decIdx := 3 }) = .op (.decTrailer 0x7D) := by decide

theorem test_decode_dec_complete :
    decode (.decoder { dw with rxValid := true, b := 0x7D, decIdx := 4 }) = .op (.decComplete 0x7D) := by decide

theorem test_decode_ctl_halted :
    decode (.arbiter { aw with arbState := .stopped, ctrlStart := true, ctrlStop := true }) = .op .ctlHalted :=
  by decide

theorem test_decode_ctl_stop :
    decode (.arbiter { aw with ctrlStart := true, ctrlStop := true }) = .op .ctlStop := by decide

theorem test_decode_ctl_start :
    decode (.arbiter { aw with ctrlStart := true }) = .op .ctlStart := by decide

theorem test_decode_ctl_idle :
    decode (.arbiter aw) = .op .ctlIdle := by decide

theorem test_decode_arb_select_skip :
    decode (.arbiter { aw with arbState := .select, arbSkip := true }) = .op .arbSelectSkip := by decide

theorem test_decode_arb_select_send :
    decode (.arbiter { aw with arbState := .select }) = .op .arbSelectSend := by decide

theorem test_decode_arb_select_empty :
    decode (.arbiter { aw with arbState := .select, qCount := 0 }) = .op .arbSelectEmpty := by decide

theorem test_decode_tx_error :
    decode (.arbiter { aw with arbState := .tx, txError := true, txReady := true, txAtLast := true }) = .op .txError :=
  by decide

theorem test_decode_tx_last :
    decode (.arbiter { aw with arbState := .tx, txReady := true, txAtLast := true }) = .op .txLast := by decide

theorem test_decode_tx_byte :
    decode (.arbiter { aw with arbState := .tx, txReady := true }) = .op .txByte := by decide

theorem test_decode_tx_stall :
    decode (.arbiter { aw with arbState := .tx, txAtLast := true }) = .op .txStall := by decide

theorem test_decode_arb_wait_recv :
    decode (.arbiter { aw with arbState := .wait, decState := .offer, replyLast := true, txError := true }) = .op .arbWaitRecv :=
  by decide

theorem test_decode_arb_wait_timeout :
    decode (.arbiter { aw with arbState := .wait, replyLast := true }) = .op .arbWaitTimeout := by decide

theorem test_decode_arb_wait_tick :
    decode (.arbiter { aw with arbState := .wait }) = .op .arbWaitTick := by decide

theorem test_decode_arb_cls_unsolicited :
    decode (.arbiter { aw with arbState := .classify, rxPresent := true, expectHit := true }) = .op .arbClsUnsolicited :=
  by decide

theorem test_decode_arb_cls_idle :
    decode (.arbiter { aw with arbState := .classify }) = .op .arbClsIdle := by decide

theorem test_decode_arb_cls_retry :
    decode (.arbiter { aw with arbState := .classify, expectEmpty := false, expectHit := true }) = .op .arbClsRetry :=
  by decide

theorem test_decode_arb_cls_unexpected :
    decode (.arbiter { aw with arbState := .classify, expectEmpty := false, rxPresent := true }) = .op .arbClsUnexpected :=
  by decide

theorem test_decode_arb_cls_match :
    decode (.arbiter { aw with arbState := .classify, expectEmpty := false, rxPresent := true, expectHit := true }) = .op .arbClsMatch :=
  by decide

theorem test_decode_arb_dispatch_done :
    decode (.arbiter { aw with arbState := .dispatch, msgReady := true }) = .op .arbDispatchDone := by decide

theorem test_decode_arb_dispatch_hold :
    decode (.arbiter { aw with arbState := .dispatch }) = .op .arbDispatchHold := by decide

theorem test_decode_q_cmd_bad_zero :
    decode (.command { cw with cmdLen := 0 }) = .op (.qCmdBad false 0 0x21 0) := by decide +kernel

theorem test_decode_q_cmd_bad_254 :
    decode (.command { cw with cmdHead := true, cmdLen := 254 }) = .op (.qCmdBad true 254 0x21 0) := by decide +kernel

theorem test_decode_q_send :
    decode (.command { cw with cmdLen := 253 }) = .op (.qSend 253 0x21 0) := by decide +kernel

theorem test_decode_q_send_priority :
    decode (.command { cw with cmdHead := true }) = .op (.qSendPriority 1 0x21 0) := by decide +kernel

theorem test_decode_q_pop :
    decode (.queue (.pop 1)) = .op .qPop := by decide

theorem test_decode_q_push_head :
    decode (.queue (.push mB 4 5)) = .op (.qPushHead mB) := by decide

theorem test_decode_q_push_ovf :
    decode (.queue (.push mB 5 5)) = .op (.qPushOvf mB) := by decide

theorem test_decode_csum_compute :
    decode (.call (.checksum [0x10])) = .op (.csumCompute [0x10]) := by decide

theorem test_decode_csum_check :
    decode (.call (.check [0x10] 0x10 0x11)) = .op (.csumCheck [0x10] 0x10 0x11) := by decide

theorem test_decode_csum_gen :
    decode (.call (.trailer [0x7D])) = .op (.csumGen [0x7D]) := by decide

theorem test_decode_enc_frame :
    decode (.call (.frame mE)) = .op (.encFrame mE) := by decide

theorem test_decode_enc_stuff :
    decode (.call (.stuff 0x7D)) = .op (.encStuff 0x7D) := by decide

/-! Words that select no operation are rejected by name. -/

theorem test_decode_rejects_no_command :
    decode (.command { cw with cmdValid := false }) = .rejected .noTransfer := by decide

theorem test_decode_rejects_port_not_ready :
    decode (.command { cw with cmdReady := false }) = .rejected .noTransfer := by decide

theorem test_decode_rejects_pop_of_empty :
    decode (.queue (.pop 0)) = .rejected .emptyQueue := by decide

theorem test_decode_rejects_push_of_no_message :
    decode (.queue (.push { n := 0, p := [], e := 0 } 0 5)) = .rejected .badMessage := by decide

theorem test_decode_rejects_checksum_of_nothing :
    decode (.call (.checksum [])) = .rejected .badPayload := by decide

theorem test_decode_rejects_check_of_nothing :
    decode (.call (.check [] 0 0)) = .rejected .badPayload := by decide

theorem test_decode_rejects_trailer_of_nothing :
    decode (.call (.trailer [])) = .rejected .badPayload := by decide

theorem test_decode_rejects_frame_of_no_message :
    decode (.call (.frame { n := 3, p := [1], e := 0 })) = .rejected .badMessage := by decide

/-- The rows of opcode_table.json that have bits of their own. -/
theorem test_table_words :
    decodeTableWord 8 0x7E = some .decSync ∧ decodeTableWord 8 0x7D = some .decEsc ∧
    decodeTableWord 8 0x00 = some (.decLenBad 0) ∧ decodeTableWord 8 0x02 = some (.decLenBad 2) ∧
    decodeTableWord 16 0x001 = some (.qSend 1 0 0) ∧ decodeTableWord 16 0x101 = some (.qSendPriority 1 0 0) ∧
    decodeTableWord 16 0x0FE = some (.qCmdBad false 0xFE 0 0) ∧ decodeTableWord 16 0x100 = some (.qCmdBad true 0 0 0) := by
  decide +kernel

/-- The placed byte runs as the first instruction after reset. -/
theorem test_placed_byte :
    (nextOf (State.reset.withFetchWord 8 0x7E)).map (fun t => (t.decState, t.arbState)) =
      some (.len, .dispatch) := by decide

/-- The placed command runs as the first instruction after reset. -/
theorem test_placed_command :
    (nextOf (State.reset.withFetchWord 16 0x1FE)).map (fun t => (t.ev, t.queue)) = some (0x4000, []) := by decide

/-! ## The checksum unit and the encoder (95_test_vectors.md §2.1, §2.2) -/

theorem test_fletcher_vectors :
    checksum .fletcher16 [0x01, 0x7D] = 0x7F7E ∧ checksum .fletcher16 [0xFF, 0xFF] = 0 ∧
    checksum .fletcher16 [0x31, 0x32, 0x33, 0x34, 0x35, 0x36, 0x37, 0x38, 0x39] = 0x1EDE := by decide

theorem test_crc_vectors :
    checksum .crc16Ccitt [0x01, 0x7D] = 0x8104 ∧ checksum .crc16Ccitt [0xFF] = 0xFF00 ∧
    checksum .crc16Ccitt [0x31, 0x32, 0x33, 0x34, 0x35, 0x36, 0x37, 0x38, 0x39] = 0x29B1 := by decide +kernel

theorem test_csum_compute :
    (bodyOf (.csumCompute [0x85, 0x01]) (st .off .hunt Inputs.quiet)).map State.ret = some (.word 0x0C86) := by
  decide

/-- A trailer byte FF never matches under FLETCHER16; swapped bytes do not match. -/
theorem test_csum_check :
    (bodyOf (.csumCheck [0x00] 0xFF 0xFF) (st .off .hunt Inputs.quiet)).map State.ret = some (.bit false) ∧
    (bodyOf (.csumCheck [0x01, 0x7D] 0x7E 0x7F) (st .off .hunt Inputs.quiet)).map State.ret = some (.bit true) := by
  decide

theorem test_csum_gen :
    (bodyOf (.csumGen [0x01, 0x7E]) (st .off .hunt Inputs.quiet)).map State.ret = some (.bytes [0x7F, 0x80]) := by
  decide

theorem test_enc_frame :
    (bodyOf (.encFrame mE) (st .off .hunt Inputs.quiet)).map State.ret =
      some (.bytes [0x7E, 0x04, 0x01, 0x7D, 0x5D, 0x7E, 0x7F]) := by decide

/-- 123 bytes 7D: the length byte is 7D and is sent unstuffed. -/
theorem test_enc_frame_long :
    let f := encodeFrame .fletcher16 { n := 123, p := List.replicate 123 0x7D, e := 0 }
    f.length = 250 ∧ f.take 4 = [0x7E, 0x7D, 0x7D, 0x5D] ∧ f.drop 246 = [0x7D, 0x5D, 0x4B, 0x3C] := by decide +kernel

theorem test_enc_stuff :
    (bodyOf (.encStuff 0x7D) (st .off .hunt Inputs.quiet)).map State.ret = some (.bytes [0x7D, 0x5D]) ∧
    (bodyOf (.encStuff 0x7E) (st .off .hunt Inputs.quiet)).map State.ret = some (.bytes [0x7E]) := by decide

/-! ## Single steps (95_test_vectors.md §2.2 to §2.7) -/

/-- the byte is not consumed -/
theorem test_dec_disabled_off :
    (nextOf (st .off .hunt (rxIn 0x7E))).map
      (fun t => (t.decState, rxTransfer (st .off .hunt (rxIn 0x7E)))) = some (.hunt, none) := by decide

/-- no EV_RX_ABORT -/
theorem test_dec_disabled_stop :
    (nextOf ({ st .wait .body { Inputs.quiet with ctrlStop := true } with decEsc := true })).map
      (fun t => (t.arbState, t.decState, t.decEsc, t.ev)) = some (.stopped, .hunt, false, 0) := by decide

/-- a byte with an error in HUNT is consumed and discarded -/
theorem test_dec_idle_error :
    (nextOf (st .wait .hunt { rxIn 0x7E with rxError := true })).map
      (fun t => (t.decState, rxTransfer (st .wait .hunt { rxIn 0x7E with rxError := true }))) = some (.hunt, some 0x7E) :=
  by decide

theorem test_dec_hunt_skip :
    (nextOf (st .wait .hunt (rxIn 0x7D))).map
      (fun t => (t.decState, t.ev)) = some (.hunt, 0) := by decide

theorem test_dec_sync :
    (nextOf (st .wait .hunt (rxIn 0x7E))).map
      (fun t => t.decState) = some (.len) := by decide

theorem test_dec_len_ok :
    (nextOf (st .wait .len (rxIn 0x7E))).map
      (fun t => (t.decState, t.decLen, t.decIdx, t.decEsc)) = some (.body, 126, 0, false) := by decide

theorem test_dec_len_bad :
    (nextOf (st .wait .len (rxIn 0x02))).map
      (fun t => (t.decState, t.ev)) = some (.hunt, 0x0002) := by decide

theorem test_dec_data :
    (nextOf ({ st .wait .body (rxIn 0x7E) with decLen := 4 })).map
      (fun t => (arrayAt t.decBuf 0, t.decIdx)) = some (0x7E, 1) := by decide

theorem test_dec_esc :
    (nextOf ({ st .wait .body (rxIn 0x7D) with decLen := 4, decIdx := 1, decBuf := [0x01] })).map
      (fun t => (t.decEsc, t.decIdx)) = some (true, 1) := by decide

theorem test_dec_unstuff :
    (nextOf ({ st .wait .body (rxIn 0x00) with decLen := 4, decIdx := 1, decBuf := [0x01], decEsc := true })).map
      (fun t => (arrayAt t.decBuf 1, t.decIdx, t.decEsc)) = some (0x20, 2, false) := by decide

/-- no escape at a trailer position -/
theorem test_dec_trailer :
    (nextOf ({ st .wait .body (rxIn 0x7D) with decLen := 3, decIdx := 1, decBuf := [0x01] })).map
      (fun t => (arrayAt t.decBuf 1, t.decIdx, t.decEsc)) = some (0x7D, 2, false) := by decide

theorem test_dec_complete_good :
    (nextOf ({ st .wait .body (rxIn 0x7F) with decLen := 4, decIdx := 3, decBuf := [0x01, 0x7D, 0x7E] })).map
      (fun t => (t.decState, t.decOk, t.decTimer, t.ev)) = some (.offer, true, 0, 0x0004) := by decide

theorem test_dec_complete_bad :
    (nextOf ({ st .wait .body (rxIn 0x7E) with decLen := 4, decIdx := 3, decBuf := [0x01, 0x7D, 0x7F] })).map
      (fun t => (t.decState, t.decOk, t.ev)) = some (.offer, false, 0x0004) := by decide

theorem test_dec_abort :
    (nextOf ({ st .wait .body { rxIn 0x5D with rxError := true } with decEsc := true })).map
      (fun t => (t.decState, t.decEsc, t.ev)) = some (.hunt, false, 0x0001) := by decide

theorem test_dec_offer_hold :
    (nextOf ({ st .tx .offer { Inputs.quiet with txReady := false } with cur := mE, decTimer := 3 })).map
      (fun t => (t.decState, t.decTimer)) = some (.offer, 4) := by decide

theorem test_dec_drop :
    (nextOf ({ st .dispatch .offer { Inputs.quiet with msgReady := false } with decTimer := 15 })).map
      (fun t => (t.decState, t.ev)) = some (.hunt, 0x0008) := by decide

/-- D17 -/
theorem test_handoff_beats_both_timeouts :
    (nextOf ({ st .wait .offer Inputs.quiet with decTimer := 15, arbTimer := 11, decLen := 4, decBuf := [0x01, 0x7D, 0x7E, 0x7F], decOk := true })).map
      (fun t => (t.decState, t.arbState, t.rxPresent, t.rx, t.ev)) = some (.hunt, .classify, true, { n := 2, p := [0x01, 0x7D], ok := true }, 0x0010) :=
  by decide

theorem test_tx_byte :
    (nextOf ({ st .tx .hunt Inputs.quiet with cur := mE, txPos := 3 })).map
      (fun t => (t.txPos, txTransfer { st .tx .hunt Inputs.quiet with cur := mE, txPos := 3 })) = some (4, some 0x7D) :=
  by decide

theorem test_tx_last :
    (nextOf ({ st .tx .hunt Inputs.quiet with cur := mE, txPos := 6, arbTimer := 5 })).map
      (fun t => (t.arbState, t.arbTimer, t.ev)) = some (.wait, 0, 0x0020) := by decide

theorem test_tx_stall :
    (nextOf ({ st .tx .hunt { Inputs.quiet with txReady := false } with cur := mE, txPos := 6 })).map
      (fun t => (t.arbState, t.txPos)) = some (.tx, 6) := by decide

theorem test_tx_error :
    (nextOf ({ st .tx .hunt { Inputs.quiet with txError := true } with cur := mE, txPos := 2 })).map
      (fun t => (t.arbState, t.txPos, t.ev)) = some (.dead, 2, 0x8000) := by decide

/-- a stop, not a death -/
theorem test_tx_error_and_stop :
    (nextOf ({ st .tx .hunt { Inputs.quiet with txError := true, ctrlStop := true } with cur := mE, txPos := 2 })).map
      (fun t => (t.arbState, t.ev)) = some (.stopped, 0) := by decide

/-- the pop sees the queue at the start of the cycle -/
theorem test_select_send :
    (nextOf ({ st .select .hunt (cmdIn true 1 0x21 0) with queue := [mA] })).map
      (fun t => (t.arbState, t.cur, t.arbExpect, t.txPos, t.queue)) = some (.tx, mA, 1#256 <<< 0x10, 0, [mB]) :=
  by decide +kernel

theorem test_select_empty :
    (nextOf (st .select .hunt (cmdIn false 1 0x21 0))).map
      (fun t => (t.arbState, t.arbExpect, t.arbTimer, t.queue)) = some (.wait, 0, 0, [mB]) := by decide +kernel

theorem test_select_skip :
    (nextOf ({ st .select .hunt Inputs.quiet with arbSkip := true, queue := [mA], arbExpect := 1 })).map
      (fun t => (t.arbState, t.arbSkip, t.arbExpect, t.queue)) = some (.wait, false, 0, [mA]) := by decide

/-- a transmit error outside TX is ignored -/
theorem test_wait_tick :
    (nextOf ({ st .wait .body { Inputs.quiet with txError := true } with arbTimer := 2 })).map
      (fun t => (t.arbState, t.arbTimer, t.decState)) = some (.wait, 3, .body) := by decide

theorem test_wait_timeout :
    (nextOf ({ st .wait .hunt Inputs.quiet with arbTimer := 11, rxPresent := true })).map
      (fun t => (t.arbState, t.rxPresent)) = some (.classify, false) := by decide

theorem test_cls_idle :
    (nextOf (st .classify .hunt Inputs.quiet)).map
      (fun t => (t.arbState, t.ev)) = some (.select, 0x0040) := by decide

/-- ACK whatever the checksum -/
theorem test_cls_unsolicited_bad :
    (nextOf ({ st .classify .hunt Inputs.quiet with rxPresent := true, rx := { n := 1, p := [0x85], ok := false }, queue := [mB] })).map
      (fun t => (t.arbState, t.queue, t.ev)) = some (.select, [ackMsg, mB], 0x0C00) := by decide

/-- 0x05 needs no ACK -/
theorem test_cls_unsolicited_plain :
    (nextOf ({ st .classify .hunt Inputs.quiet with rxPresent := true, rx := { n := 2, p := [0x05, 0x01], ok := true } })).map
      (fun t => (t.arbState, t.queue, t.ev)) = some (.dispatch, [], 0) := by decide

theorem test_cls_retry :
    (nextOf ({ st .classify .hunt Inputs.quiet with arbExpect := mA.e, cur := mA, queue := [mB] })).map
      (fun t => (t.arbState, t.queue, t.ev)) = some (.select, [mA, mB], 0x0080) := by decide

/-- no ACK (R195) -/
theorem test_cls_unexpected_good :
    (nextOf ({ st .classify .hunt Inputs.quiet with arbExpect := mA.e, cur := mA, rxPresent := true, rx := { n := 2, p := [0x85, 0x01], ok := true } })).map
      (fun t => (t.arbState, t.arbSkip, t.queue, t.ev)) = some (.dispatch, true, [mA], 0x0100) := by decide

theorem test_cls_unexpected_bad :
    (nextOf ({ st .classify .hunt Inputs.quiet with arbExpect := mA.e, cur := mA, rxPresent := true, rx := { n := 1, p := [0x05], ok := false } })).map
      (fun t => (t.arbState, t.arbSkip, t.queue, t.ev)) = some (.select, true, [mA], 0x0900) := by decide

theorem test_cls_match_good :
    (nextOf ({ st .classify .hunt Inputs.quiet with arbExpect := 1#256 <<< 0x90, rxPresent := true, rx := { n := 1, p := [0x90], ok := true } })).map
      (fun t => (t.arbState, t.queue, t.ev)) = some (.dispatch, [], 0x0200) := by decide

theorem test_cls_match_bad :
    (nextOf ({ st .classify .hunt Inputs.quiet with arbExpect := mA.e, rxPresent := true, rx := { n := 1, p := [0x10], ok := false } })).map
      (fun t => (t.arbState, t.queue, t.ev)) = some (.select, [], 0x0A00) := by decide

theorem test_dispatch_hold :
    (nextOf ({ st .dispatch .hunt { Inputs.quiet with msgReady := false } with rx := { n := 1, p := [0x10], ok := true } })).map
      (fun t => (t.arbState, t.ev)) = some (.dispatch, 0) := by decide

theorem test_dispatch_done :
    (nextOf ({ st .dispatch .hunt Inputs.quiet with rx := { n := 1, p := [0x10], ok := true } })).map
      (fun t => (t.arbState, t.ev)) = some (.select, 0x1000) := by decide

/-- pop, host, push -/
theorem test_retry_with_command :
    (nextOf ({ st .classify .hunt (cmdIn false 1 0x23 0) with arbExpect := mA.e, cur := mA, queue := [mB, mB] })).map
      (fun t => t.queue.map TxMsg.p) = some [[0x10], [0x21], [0x21], [0x23]] := by decide +kernel

theorem test_q_send :
    (nextOf ({ st .off .hunt (cmdIn false 2 0xAA10 0) with queue := [mB] })).map
      (fun t => t.queue.map TxMsg.p) = some [[0x21], [0x10, 0xAA]] := by decide +kernel

theorem test_q_send_priority :
    (nextOf ({ st .off .hunt (cmdIn true 1 0x23 0) with queue := [mB] })).map
      (fun t => t.queue.map TxMsg.p) = some [[0x23], [0x21]] := by decide +kernel

theorem test_q_cmd_bad :
    (nextOf ({ st .off .hunt (cmdIn true 255 0 0) with queue := [mB] })).map
      (fun t => (t.queue, t.ev)) = some ([mB], 0x4000) := by decide

/-- q_count = HOST_LIMIT -/
theorem test_q_full_for_host :
    (nextOf ({ st .off .hunt (cmdIn false 1 0x21 0) with queue := [mB, mB, mB] })).map
      (fun t => (t.queue.length, t.ev)) = some (3, 0) := by decide

theorem test_ctl_start :
    (nextOf (st .off .hunt { Inputs.quiet with ctrlStart := true })).map
      (fun t => t.arbState) = some (.select) := by decide

/-- R265 -/
theorem test_ctl_stop_wins :
    (nextOf (st .off .hunt { Inputs.quiet with ctrlStart := true, ctrlStop := true })).map
      (fun t => t.arbState) = some (.stopped) := by decide

theorem test_ctl_idle :
    (nextOf (st .off .hunt Inputs.quiet)).map
      (fun t => t.arbState) = some (.off) := by decide

theorem test_ctl_halted_dead :
    (nextOf (st .dead .hunt { Inputs.quiet with ctrlStop := true })).map
      (fun t => t.arbState) = some (.dead) := by decide

/-- no restart before reset -/
theorem test_ctl_halted_stopped :
    (nextOf (st .stopped .hunt { Inputs.quiet with ctrlStart := true })).map
      (fun t => t.arbState) = some (.stopped) := by decide

/-- from DEAD -/
theorem test_reset :
    (nextOf ({ st .dead .hunt { Inputs.quiet with rst := true, ctrlStart := true } with ev := 7, queue := [mA] })).map
      (fun t => (t.arbState, t.ev, t.queue, t.cfg)) = some (.off, 0, [], cfg) := by decide

/-- Q.POP, Q.PUSH_HEAD and Q.PUSH_OVF by themselves (R224 to R226, R228). -/
theorem test_q_pop :
    (bodyOf .qPop { st .off .hunt Inputs.quiet with queue := [mA, mB] }).map (fun t => (t.queue, t.ret)) =
      some ([mB], .popped (some mA)) := by decide

theorem test_q_push_head :
    (bodyOf (.qPushHead mA) { st .off .hunt Inputs.quiet with queue := [mB] }).map State.queue =
      some [mA, mB] := by decide

theorem test_q_push_ovf :
    (bodyOf (.qPushOvf mA) { st .off .hunt Inputs.quiet with queue := [mB] }).map
      (fun t => (t.queue, t.txqOvf, t.ev)) = some ([mB], true, 0x2000) := by decide

/-- Status words of §2.6. -/
theorem test_status_words :
    statusWord (st .wait .body Inputs.quiet) = 0x33 ∧
    statusWord { st .dead .hunt Inputs.quiet with arbExpect := 1, queue := [mB] } = 0x646 ∧
    statusWord { st .stopped .hunt Inputs.quiet with arbExpect := 1 } = 0x267 := by decide

/-- Streams of §2.3: a stuffed trailer, a non-canonical escape, a bad length before a good frame. -/
theorem test_streams :
    decodeStream .fletcher16 [0x7E, 0x03, 0x7D, 0x5D, 0x7D, 0x5D, 0x7D] = [{ n := 1, p := [0x7D], ok := false }] ∧
    decodeStream .fletcher16 [0x7E, 0x03, 0x7D, 0x00, 0x20, 0x20] = [{ n := 1, p := [0x20], ok := true }] ∧
    decodeStream .fletcher16 [0x7E, 0x02, 0x7E, 0x03, 0x1D, 0x1D, 0x1D] = [{ n := 1, p := [0x1D], ok := true }] ∧
    decodeStream .crc16Ccitt [0x7E, 0x03, 0x1D, 0x1D, 0x1D] = [{ n := 1, p := [0x1D], ok := false }] := by decide

/-- The stimulus driver (R96): the byte of a line is offered from its cycle on, a hold line clears tx_ready. -/
theorem test_driver :
    ((Driver.init .fletcher16 [⟨0, .rxframe [0x10]⟩, ⟨0, .txhold 2⟩]).inputs.rxData,
      (Driver.init .fletcher16 [⟨0, .rxframe [0x10]⟩, ⟨0, .txhold 2⟩]).inputs.txReady,
      (Driver.init .fletcher16 [⟨1, .rxframe [0x10]⟩]).inputs.rxValid) = (0x7E, false, false) := by decide

/-- R96: a line starts at its cycle wherever it is written. -/
theorem test_driver_order :
    (let d := Driver.init .fletcher16 [⟨9, .rx [0x55]⟩, ⟨2, .rx [0x7E]⟩, ⟨9, .sendlen 0⟩, ⟨2, .sendlen 0xFE⟩]
    let now2 : Inputs := { d with now := 2 }.inputs
    (now2.rxValid, now2.rxData, now2.cmdValid, now2.cmdLen, { d with now := 1 }.inputs.rxValid)) =
      (true, 0x7E, true, 0xFE, false) := by decide

/-- R299: a run has not ended while a line is to come, holds an input or has a byte left; it has after the last one. -/
theorem test_run_end :
    (let d (now : Nat) (ls : List Line) : Driver := { Driver.init .fletcher16 ls with now := now }
    ((d 0 [⟨0, .stop⟩]).runEnded State.reset, (d 5 [⟨4, .txhold 2⟩]).runEnded State.reset,
      (d 5 [⟨0, .rx [0x7E]⟩]).runEnded State.reset, (d 6 [⟨4, .txhold 2⟩, ⟨3, .start⟩]).runEnded State.reset)) =
      (false, false, false, true) := by decide

/-- R299: a stop in cycle 0 ends the run at the start of cycle 1. -/
theorem test_run_end_stopped :
    (endOfRun 1 (Driver.init .fletcher16 [⟨0, .stop⟩, ⟨9, .start⟩]) { State.reset with cfg := cfg }).map
      (fun x => (x.1, x.2.arbState)) = some (1, .stopped) := by decide

/-! ## Witnesses: for the statements with hypotheses, states and operands that meet them, at the ends of ranges -/

theorem test_witness_step_dequeue_and_command :
    let s : State := { st .select .hunt (cmdIn true 1 0x21 0) with queue := [mA] }
    (inputsNow s).rst = false ∧ decode (.decoder (decoderKeyOf s)) = .op .decIdle ∧
    decode (.arbiter (arbiterKeyOf s)) = .op .arbSelectSend ∧
    decode (.command (commandKeyOf s)) = .op (.qSendPriority 1 0x21 0) := by decide +kernel

theorem test_witness_step_without_command :
    let s : State := st .wait .hunt (rxIn 0x7E)
    (inputsNow s).rst = false ∧ decode (.decoder (decoderKeyOf s)) = .op .decSync ∧
    decode (.arbiter (arbiterKeyOf s)) = .op .arbWaitTick ∧
    decode (.command (commandKeyOf s)) = .rejected .noTransfer := by decide

theorem test_witness_placed_word :
    decodeTableWord 8 0x7D = some .decEsc ∧ decodeTableWord 9 0x1FD = some (.qSendPriority 253 0 0) :=
  by decide +kernel

theorem test_witness_encode :
    Instr.wellFormed (.decLenOk 3) = true ∧ Instr.wellFormed (.qSend 253 0 0) = true := by decide

theorem test_witness_decoded :
    decode (.queue (.push mA 0 3)) = .op (.qPushHead mA) := by decide

theorem test_witness_rows :
    dw.arbState.running = true ∧ dw.kill = false ∧ ({ dw with rxValid := true } : DecoderKey).rxError = false ∧
    ({ dw with rxValid := true } : DecoderKey).rxValid = true := by decide

theorem test_witness_disabled_off :
    let s : State := st .off .hunt Inputs.quiet
    (inputsNow s).rst = false ∧ s.arbState.running = false := by decide

theorem test_witness_disabled_stop :
    let s : State := st .wait .body { Inputs.quiet with ctrlStop := true }
    (inputsNow s).rst = false ∧ s.arbState.running = true ∧ (inputsNow s).ctrlStop = true := by decide

theorem test_witness_disabled_error :
    let s : State := st .tx .body { Inputs.quiet with txError := true }
    (inputsNow s).rst = false ∧ s.arbState.running = true ∧ s.arbState = .tx ∧
    (inputsNow s).txError = true := by decide

theorem test_witness_idle_no_byte :
    let s : State := st .wait .len Inputs.quiet
    Live s ∧ s.decState ≠ .offer ∧ (inputsNow s).rxError = false ∧ (inputsNow s).rxValid = false := by decide

theorem test_witness_idle_error :
    let s : State := st .wait .hunt { rxIn 0x7E with rxError := true }
    Live s ∧ s.decState = .hunt ∧ (inputsNow s).rxError = true := by decide

theorem test_witness_hunt_skip :
    Receives 0x7D (st .tx .hunt (rxIn 0x7D)) ∧ (st .tx .hunt (rxIn 0x7D)).decState = .hunt ∧ (0x7D : Byte) ≠ 0x7E :=
  by decide

theorem test_witness_sync :
    Receives 0x7E (st .wait .hunt (rxIn 0x7E)) ∧ (st .wait .hunt (rxIn 0x7E)).decState = .hunt := by decide

theorem test_witness_len_ok_03 :
    Receives 0x03 (st .wait .len (rxIn 0x03)) ∧ (st .wait .len (rxIn 0x03)).decState = .len ∧ 3 ≤ (0x03 : Byte).toNat :=
  by decide

theorem test_witness_len_ok_FF :
    Receives 0xFF (st .wait .len (rxIn 0xFF)) ∧ (st .wait .len (rxIn 0xFF)).decState = .len ∧ 3 ≤ (0xFF : Byte).toNat :=
  by decide

theorem test_witness_len_bad_00 :
    Receives 0x00 (st .wait .len (rxIn 0x00)) ∧ (st .wait .len (rxIn 0x00)).decState = .len ∧ (0x00 : Byte).toNat < 3 :=
  by decide

theorem test_witness_len_bad_02 :
    Receives 0x02 (st .wait .len (rxIn 0x02)) ∧ (st .wait .len (rxIn 0x02)).decState = .len ∧ (0x02 : Byte).toNat < 3 :=
  by decide

/-- The last data position of the frame. -/
theorem test_witness_data :
    let s : State := { st .wait .body (rxIn 0x7E) with decLen := 4, decIdx := 1, decBuf := [1] }
    Receives 0x7E s ∧ s.decState = .body ∧ s.decEsc = false ∧ s.decIdx.toNat + 2 < s.decLen.toNat ∧
    (0x7E : Byte) ≠ 0x7D := by decide

theorem test_witness_esc :
    let s : State := { st .wait .body (rxIn 0x7D) with decLen := 4, decIdx := 1, decBuf := [1] }
    Receives 0x7D s ∧ s.decState = .body ∧ s.decEsc = false ∧ s.decIdx.toNat + 2 < s.decLen.toNat := by decide

theorem test_witness_unstuff :
    let s : State := { st .wait .body (rxIn 0x5D) with decLen := 4, decIdx := 1, decBuf := [1], decEsc := true }
    Receives 0x5D s ∧ s.decState = .body ∧ s.decEsc = true := by decide

theorem test_witness_trailer :
    let s : State := { st .wait .body (rxIn 0x7D) with decLen := 3, decIdx := 1, decBuf := [1] }
    Receives 0x7D s ∧ s.decState = .body ∧ s.decEsc = false ∧ s.decIdx.toNat + 2 = s.decLen.toNat := by decide

theorem test_witness_array :
    (0 : Nat) ≠ 1 := by decide

theorem test_witness_complete :
    let s : State := { st .wait .body (rxIn 0x7F) with decLen := 3, decIdx := 2, decBuf := [1, 2] }
    Receives 0x7F s ∧ s.decState = .body ∧ s.decEsc = false ∧ s.decIdx.toNat + 1 = s.decLen.toNat := by decide

theorem test_witness_abort_len :
    let s : State := st .wait .len { rxIn 0x03 with rxError := true }
    Live s ∧ (s.decState = .len ∨ s.decState = .body) ∧ (inputsNow s).rxError = true := by decide

theorem test_witness_abort_body :
    let s : State := st .wait .body { rxIn 0x03 with rxError := true }
    Live s ∧ (s.decState = .len ∨ s.decState = .body) ∧ (inputsNow s).rxError = true := by decide

theorem test_witness_offer_hold :
    let s : State := { st .tx .offer Inputs.quiet with decTimer := 14 }
    Live s ∧ s.decState = .offer ∧ s.arbState ≠ .wait ∧ s.decTimer + 1 < s.cfg.tHandoff := by decide

theorem test_witness_handoff :
    let s : State := { st .wait .offer Inputs.quiet with decTimer := 15 }
    Live s ∧ s.decState = .offer ∧ s.arbState = .wait := by decide

theorem test_witness_drop :
    let s : State := { st .tx .offer Inputs.quiet with decTimer := 15 }
    Live s ∧ s.decState = .offer ∧ s.arbState ≠ .wait ∧ s.decTimer + 1 = s.cfg.tHandoff := by decide

theorem test_witness_single_bit :
    (7 : Nat) < 8 := by decide

theorem test_witness_frame_longest :
    TxMsg.wf { n := 253, p := List.replicate 253 0x7D, e := 0 } = true ∧ TxMsg.wf { n := 1, p := [0], e := 0 } = true :=
  by decide +kernel

theorem test_witness_round_trip :
    TxMsg.wf mE = true ∧ (∀ b ∈ ([0x55, 0x7D] : List Byte), b ≠ 0x7E) := by decide

theorem test_witness_tx_byte :
    let s : State := { st .tx .hunt Inputs.quiet with cur := mE, txPos := 5 }
    Acts s ∧ s.arbState = .tx ∧ (inputsNow s).txError = false ∧ (inputsNow s).txReady = true ∧
    s.txPos.toNat + 1 < (encodeFrame s.cfg.checksumAlg s.cur).length := by decide

theorem test_witness_tx_last :
    let s : State := { st .tx .hunt Inputs.quiet with cur := mE, txPos := 6 }
    Acts s ∧ s.arbState = .tx ∧ (inputsNow s).txError = false ∧ (inputsNow s).txReady = true ∧
    s.txPos.toNat + 1 = (encodeFrame s.cfg.checksumAlg s.cur).length := by decide

theorem test_witness_tx_stall :
    let s : State := { st .tx .hunt { Inputs.quiet with txReady := false } with cur := mE, txPos := 6 }
    Acts s ∧ s.arbState = .tx ∧ (inputsNow s).txError = false ∧ (inputsNow s).txReady = false := by decide

theorem test_witness_tx_error :
    let s : State := { st .tx .hunt { Inputs.quiet with txError := true } with cur := mE, txPos := 0 }
    Acts s ∧ s.arbState = .tx ∧ (inputsNow s).txError = true := by decide

/-- The cycle before the last byte, and that of the last byte. -/
theorem test_witness_frame_integrity :
    let s : State := { st .tx .hunt Inputs.quiet with cur := mE, txPos := 0 }
    s.arbState = .tx ∧ s.txPos = 0 ∧ s.cur.wf = true ∧ readyCount s 6 < (curFrame s).length ∧
    readyCount s (6 + 1) = (curFrame s).length ∧ Undisturbed (6 + 1) s ∧ Undisturbed 6 s := by
  refine ⟨by decide, by decide, by decide, by decide, by decide, ?_, ?_⟩ <;> unfold Undisturbed <;> decide

/-- The last cycle of the wait in which the frame can still arrive; the list of inputs as long as the run. -/
theorem test_witness_received_frame :
    let f := encodeFrame .fletcher16 mE
    let s : State := { st .wait .hunt Inputs.quiet with
      arbTimer := 4, decBuf := [9, 9],
      stim := ⟨f.map (fun b => { Inputs.quiet with rxValid := true, rxData := b }) ++ [Inputs.quiet], []⟩ }
    mE.wf = true ∧ s.arbState = .wait ∧ s.decState = .hunt ∧ s.arbTimer + f.length < s.cfg.tReply ∧
    (∀ i, i < f.length + 1 →
      (inputAt s i).rst = false ∧ (inputAt s i).ctrlStop = false ∧ (inputAt s i).cmdValid = false) ∧
    (∀ i, i < f.length → (inputAt s i).rxError = false ∧ (inputAt s i).rxValid = true ∧ (inputAt s i).rxData = f.getD i 0) :=
  by decide

/-- Inputs that go on after the run. -/
theorem test_witness_received_frame_more_inputs :
    let f := encodeFrame .fletcher16 mE
    let s : State := { st .wait .hunt Inputs.quiet with
      arbTimer := 4, decBuf := [9, 9],
      stim := ⟨f.map (fun b => { Inputs.quiet with rxValid := true, rxData := b }) ++ [Inputs.quiet, { Inputs.quiet with ctrlStop := true }], []⟩ }
    mE.wf = true ∧ s.arbState = .wait ∧ s.decState = .hunt ∧ s.arbTimer + f.length < s.cfg.tReply ∧
    (∀ i, i < f.length + 1 →
      (inputAt s i).rst = false ∧ (inputAt s i).ctrlStop = false ∧ (inputAt s i).cmdValid = false) ∧
    (∀ i, i < f.length → (inputAt s i).rxError = false ∧ (inputAt s i).rxValid = true ∧ (inputAt s i).rxData = f.getD i 0) :=
  by decide

theorem test_witness_start :
    let s : State := st .off .hunt { Inputs.quiet with ctrlStart := true }
    Acts s ∧ s.arbState = .off ∧ (inputsNow s).ctrlStart = true := by decide

theorem test_witness_stop_clauses :
    let s : State := st .off .hunt { cmdIn false 0 0 0 with ctrlStop := true }
    (inputsNow s).rst = false ∧ s.arbState ≠ .dead ∧ s.arbState ≠ .stopped ∧
    (inputsNow s).ctrlStop = true ∧ cmdTransfer s = some { n := 0, p := [], e := 0 } ∧
    TxMsg.wf { n := 0, p := [], e := 0 } = false := by decide

theorem test_witness_stop_with_command :
    let s : State := st .dispatch .hunt { cmdIn true 1 0x21 0 with ctrlStop := true }
    (inputsNow s).rst = false ∧ s.arbState ≠ .dead ∧ s.arbState ≠ .stopped ∧
    (inputsNow s).ctrlStop = true ∧ cmdTransfer s = some mB ∧ mB.wf = true := by decide +kernel

theorem test_witness_stop_no_command :
    let s : State := st .tx .body { Inputs.quiet with ctrlStop := true, txError := true }
    (inputsNow s).rst = false ∧ s.arbState ≠ .dead ∧ s.arbState ≠ .stopped ∧
    (inputsNow s).ctrlStop = true ∧ cmdTransfer s = none := by decide

theorem test_witness_halted_dead :
    let s : State := st .dead .hunt { cmdIn true 1 0x21 0 with ctrlStart := true, ctrlStop := true }
    (inputsNow s).rst = false ∧ (s.arbState = .dead ∨ s.arbState = .stopped) ∧ s.decState = .hunt ∧
    s.decEsc = false ∧ (∀ i, i < 2 + 1 → (inputAt s i).rst = false) := by decide

theorem test_witness_halted_stopped :
    let s : State := st .stopped .hunt { cmdIn true 1 0x21 0 with ctrlStart := true, ctrlStop := true }
    (inputsNow s).rst = false ∧ (s.arbState = .dead ∨ s.arbState = .stopped) ∧ s.decState = .hunt ∧
    s.decEsc = false ∧ (∀ i, i < 2 + 1 → (inputAt s i).rst = false) := by decide

theorem test_witness_ctl_idle :
    let s : State := st .off .hunt Inputs.quiet
    Acts s ∧ s.arbState = .off ∧ (inputsNow s).ctrlStart = false := by decide

theorem test_witness_select_send :
    let s : State := { st .select .hunt Inputs.quiet with queue := [mA] }
    Acts s ∧ s.arbState = .select ∧ s.arbSkip = false ∧ s.queue = [mA] := by decide

theorem test_witness_select_empty :
    let s : State := st .select .hunt Inputs.quiet
    Acts s ∧ s.arbState = .select ∧ s.arbSkip = false ∧ s.queue = [] := by decide

theorem test_witness_select_skip :
    let s : State := { st .select .hunt Inputs.quiet with arbSkip := true, queue := [mA] }
    Acts s ∧ s.arbState = .select ∧ s.arbSkip = true := by decide

theorem test_witness_wait_tick :
    let s : State := { st .wait .body Inputs.quiet with arbTimer := 10 }
    Acts s ∧ s.arbState = .wait ∧ s.decState ≠ .offer ∧ s.arbTimer + 1 < s.cfg.tReply := by decide

theorem test_witness_wait_recv :
    let s : State := { st .wait .offer Inputs.quiet with arbTimer := 11 }
    Acts s ∧ s.arbState = .wait ∧ s.decState = .offer := by decide

theorem test_witness_wait_timeout :
    let s : State := { st .wait .hunt Inputs.quiet with arbTimer := 11 }
    Acts s ∧ s.arbState = .wait ∧ s.decState ≠ .offer ∧ s.arbTimer + 1 = s.cfg.tReply := by decide

theorem test_witness_unsolicited_plain :
    let s : State := { st .classify .hunt Inputs.quiet with rxPresent := true, rx := { n := 1, p := [0x7F], ok := true } }
    Acts s ∧ s.arbState = .classify ∧ s.arbExpect = 0 ∧ s.rxPresent = true ∧
    s.cfg.ackRequired.getLsbD (arrayAt s.rx.p 0).toNat = false := by decide

/-- The last free entry. -/
theorem test_witness_unsolicited_ack :
    let s : State := { st .classify .hunt Inputs.quiet with rxPresent := true, rx := { n := 1, p := [0x80], ok := false }, queue := [mB, mB, mB, mB] }
    Acts s ∧ s.arbState = .classify ∧ s.arbExpect = 0 ∧ s.rxPresent = true ∧
    s.cfg.ackRequired.getLsbD (arrayAt s.rx.p 0).toNat = true ∧ s.queue.length < s.cfg.txqDepth := by decide

theorem test_witness_unsolicited_overflow :
    let s : State := { st .classify .hunt Inputs.quiet with rxPresent := true, rx := { n := 1, p := [0x80], ok := true }, queue := [mB, mB, mB, mB, mB] }
    Acts s ∧ s.arbState = .classify ∧ s.arbExpect = 0 ∧ s.rxPresent = true ∧
    s.cfg.ackRequired.getLsbD (arrayAt s.rx.p 0).toNat = true ∧ s.cfg.txqDepth ≤ s.queue.length := by decide

theorem test_witness_cls_idle :
    let s : State := st .classify .hunt Inputs.quiet
    Acts s ∧ s.arbState = .classify ∧ s.arbExpect = 0 ∧ s.rxPresent = false := by decide

theorem test_witness_cls_retry_room :
    let s : State := { st .classify .hunt Inputs.quiet with arbExpect := mA.e, cur := mA, queue := [mB, mB, mB, mB] }
    Acts s ∧ s.arbState = .classify ∧ s.arbExpect ≠ 0 ∧ s.rxPresent = false ∧
    s.queue.length < s.cfg.txqDepth := by decide

theorem test_witness_cls_unexpected_room :
    let s : State := { st .classify .hunt Inputs.quiet with rxPresent := true, arbExpect := mA.e, cur := mA, queue := [mB, mB, mB, mB], rx := { n := 1, p := [0x05], ok := true } }
    Acts s ∧ s.arbState = .classify ∧ s.arbExpect ≠ 0 ∧ s.rxPresent = true ∧
    s.arbExpect.getLsbD (arrayAt s.rx.p 0).toNat = false ∧ s.queue.length < s.cfg.txqDepth := by decide

theorem test_witness_cls_retry_full :
    let s : State := { st .classify .hunt Inputs.quiet with arbExpect := mA.e, cur := mA, queue := [mB, mB, mB, mB, mB] }
    Acts s ∧ s.arbState = .classify ∧ s.arbExpect ≠ 0 ∧ s.rxPresent = false ∧
    s.cfg.txqDepth ≤ s.queue.length := by decide

theorem test_witness_cls_unexpected_full :
    let s : State := { st .classify .hunt Inputs.quiet with rxPresent := true, arbExpect := mA.e, cur := mA, queue := [mB, mB, mB, mB, mB], rx := { n := 1, p := [0x05], ok := true } }
    Acts s ∧ s.arbState = .classify ∧ s.arbExpect ≠ 0 ∧ s.rxPresent = true ∧
    s.arbExpect.getLsbD (arrayAt s.rx.p 0).toNat = false ∧ s.cfg.txqDepth ≤ s.queue.length := by decide

theorem test_witness_cls_match :
    let s : State := { st .classify .hunt Inputs.quiet with rxPresent := true, arbExpect := mA.e, rx := { n := 1, p := [0x10], ok := true } }
    Acts s ∧ s.arbState = .classify ∧ s.arbExpect ≠ 0 ∧ s.rxPresent = true ∧
    s.arbExpect.getLsbD (arrayAt s.rx.p 0).toNat = true := by decide

theorem test_witness_dispatch_hold :
    let s : State := st .dispatch .hunt { Inputs.quiet with msgReady := false }
    Acts s ∧ s.arbState = .dispatch ∧ (inputsNow s).msgReady = false := by decide

theorem test_witness_dispatch_done :
    let s : State := st .dispatch .hunt Inputs.quiet
    Acts s ∧ s.arbState = .dispatch ∧ (inputsNow s).msgReady = true := by decide

theorem test_witness_q_send :
    let s : State := { st .off .hunt (cmdIn false 1 0x21 7) with queue := [mB, mB] }
    Commands s ∧ (inputsNow s).cmdLen = 1 ∧ (inputsNow s).cmdPayload = 0x21 ∧
    (inputsNow s).cmdExpect = 7 ∧ (inputsNow s).cmdHead = false ∧ 1 ≤ (1 : Byte).toNat ∧
    (1 : Byte).toNat ≤ 253 := by decide +kernel

theorem test_witness_q_send_longest :
    let s : State := { st .off .hunt (cmdIn false 253 0x21 7) with queue := [] }
    Commands s ∧ (inputsNow s).cmdLen = 253 ∧ (inputsNow s).cmdPayload = 0x21 ∧
    (inputsNow s).cmdExpect = 7 ∧ (inputsNow s).cmdHead = false ∧ 1 ≤ (253 : Byte).toNat ∧
    (253 : Byte).toNat ≤ 253 := by decide +kernel

theorem test_witness_q_send_priority :
    let s : State := { st .off .hunt (cmdIn true 253 0x21 7) with queue := [mB, mB] }
    Commands s ∧ (inputsNow s).cmdLen = 253 ∧ (inputsNow s).cmdPayload = 0x21 ∧
    (inputsNow s).cmdExpect = 7 ∧ (inputsNow s).cmdHead = true ∧ 1 ≤ (253 : Byte).toNat ∧
    (253 : Byte).toNat ≤ 253 := by decide +kernel

theorem test_witness_q_send_priority_one :
    let s : State := { st .off .hunt (cmdIn true 1 0x21 7) with queue := [] }
    Commands s ∧ (inputsNow s).cmdLen = 1 ∧ (inputsNow s).cmdPayload = 0x21 ∧
    (inputsNow s).cmdExpect = 7 ∧ (inputsNow s).cmdHead = true ∧ 1 ≤ (1 : Byte).toNat ∧
    (1 : Byte).toNat ≤ 253 := by decide +kernel

theorem test_witness_q_cmd_bad_zero :
    let s : State := st .off .hunt (cmdIn true 0 0x21 7)
    Commands s ∧ (inputsNow s).cmdHead = true ∧ (inputsNow s).cmdLen = 0 ∧
    (inputsNow s).cmdPayload = 0x21 ∧ (inputsNow s).cmdExpect = 7 ∧
    ((0 : Byte).toNat = 0 ∨ 254 ≤ (0 : Byte).toNat) := by decide +kernel

theorem test_witness_q_cmd_bad_254 :
    let s : State := st .off .hunt (cmdIn true 254 0x21 7)
    Commands s ∧ (inputsNow s).cmdHead = true ∧ (inputsNow s).cmdLen = 254 ∧
    (inputsNow s).cmdPayload = 0x21 ∧ (inputsNow s).cmdExpect = 7 ∧
    ((254 : Byte).toNat = 0 ∨ 254 ≤ (254 : Byte).toNat) := by decide +kernel

theorem test_witness_no_command_no_valid :
    let s : State := { st .off .hunt Inputs.quiet with queue := [] }
    (inputsNow s).rst = false ∧
    ((inputsNow s).cmdValid = false ∨ s.arbState = .dead ∨ s.arbState = .stopped ∨
      s.cfg.txqDepth ≤ s.queue.length + 2) := by decide

theorem test_witness_no_command_dead :
    let s : State := { st .dead .hunt (cmdIn true 1 0x21 0) with queue := [] }
    (inputsNow s).rst = false ∧
    ((inputsNow s).cmdValid = false ∨ s.arbState = .dead ∨ s.arbState = .stopped ∨
      s.cfg.txqDepth ≤ s.queue.length + 2) := by decide

theorem test_witness_no_command_stopped :
    let s : State := { st .stopped .hunt (cmdIn true 1 0x21 0) with queue := [] }
    (inputsNow s).rst = false ∧
    ((inputsNow s).cmdValid = false ∨ s.arbState = .dead ∨ s.arbState = .stopped ∨
      s.cfg.txqDepth ≤ s.queue.length + 2) := by decide

theorem test_witness_no_command_host_limit :
    let s : State := { st .off .hunt (cmdIn true 1 0x21 0) with queue := [mB, mB, mB] }
    (inputsNow s).rst = false ∧
    ((inputsNow s).cmdValid = false ∨ s.arbState = .dead ∨ s.arbState = .stopped ∨
      s.cfg.txqDepth ≤ s.queue.length + 2) := by decide

theorem test_witness_q_internal_room :
    let s : State := { st .off .hunt Inputs.quiet with queue := [mA, mB, mB, mB] }
    s.queue = mA :: [mB, mB, mB] ∧ s.queue.length < s.cfg.txqDepth := by decide

theorem test_witness_q_internal_full :
    let s : State := { st .off .hunt Inputs.quiet with queue := [mA, mB, mB, mB, mB] }
    s.queue = mA :: [mB, mB, mB, mB] ∧ s.cfg.txqDepth ≤ s.queue.length := by decide

/-- The empty queue of PriorityOrder and of a poll that returns none. -/
theorem test_witness_q_empty :
    State.reset.queue = [] := rfl

theorem test_witness_same_cycle_pop :
    let s : State := { st .select .hunt (cmdIn true 1 0x21 0) with queue := [mA] }
    Acts s ∧ s.arbState = .select ∧ s.arbSkip = false ∧ s.queue = [mA] ∧ cmdTransfer s = some mB ∧
    mB.wf = true ∧ (nextOf s).isSome = true := by decide +kernel

theorem test_witness_same_cycle_retry :
    let s : State := { st .classify .hunt (cmdIn false 1 0x21 0) with arbExpect := mA.e, cur := mA, queue := [mB, mB] }
    Acts s ∧ s.arbState = .classify ∧ s.arbExpect ≠ 0 ∧ s.rxPresent = false ∧ cmdTransfer s = some mB ∧
    mB.wf = true ∧ (nextOf s).isSome = true := by decide +kernel

theorem test_witness_same_cycle_unexpected :
    let s : State := { st .classify .hunt (cmdIn false 1 0x21 0) with rxPresent := true, rx := { n := 1, p := [0x05], ok := false }, arbExpect := mA.e, cur := mA, queue := [mB, mB] }
    Acts s ∧ s.arbState = .classify ∧ s.arbExpect ≠ 0 ∧ s.rxPresent = true ∧
    s.arbExpect.getLsbD (arrayAt s.rx.p 0).toNat = false ∧ cmdTransfer s = some mB ∧ mB.wf = true ∧
    (nextOf s).isSome = true := by decide +kernel

theorem test_witness_same_cycle_ack :
    let s : State := { st .classify .hunt (cmdIn true 1 0x21 0) with rxPresent := true, rx := { n := 1, p := [0x85], ok := false } }
    Acts s ∧ s.arbState = .classify ∧ s.arbExpect = 0 ∧ s.rxPresent = true ∧
    s.cfg.ackRequired.getLsbD (arrayAt s.rx.p 0).toNat = true ∧ cmdTransfer s = some mB ∧ mB.wf = true ∧
    (nextOf s).isSome = true := by decide +kernel

theorem test_witness_reset_cycle :
    (inputsNow (st .tx .body { Inputs.quiet with rst := true, ctrlStop := true })).rst = true := by decide

theorem test_witness_status_codes :
    (∀ a ∈ [ArbState.off, .select, .tx, .wait, .classify, .dispatch, .dead, .stopped], (st a .hunt Inputs.quiet).arbState = a) ∧
    (∀ d ∈ [DecState.hunt, .len, .body, .offer], (st .wait d Inputs.quiet).decState = d) ∧
    (st .wait .hunt Inputs.quiet).arbState.running = true := by decide

theorem test_witness_outputs_tx :
    (st .tx .hunt Inputs.quiet).arbState = .tx ∧ (st .off .hunt Inputs.quiet).arbState ≠ .tx ∧
    msgValid (st .dispatch .hunt Inputs.quiet) = true := by decide

/-- The last lane of the longest payload. -/
theorem test_witness_dispatch_lanes :
    let s : State := { st .dispatch .hunt Inputs.quiet with rx := { n := 253, p := [1], ok := true } }
    msgValid s = true ∧ 252 < 253 ∧ s.rx.n.toNat ≤ 253 ∧ 252 < s.rx.n.toNat := by decide

theorem test_witness_dispatch_lanes_past :
    let s : State := { st .dispatch .hunt Inputs.quiet with rx := { n := 1, p := [1], ok := true } }
    msgValid s = true ∧ 1 < 253 ∧ s.rx.n.toNat ≤ 253 ∧ ¬1 < s.rx.n.toNat := by decide

/-- ParametersAreFixed, OverflowFlagIsSticky, PortEventsExactly, ArbiterEventsExactly, HandoffMovesTheMessage. -/
theorem test_witness_next_state :
    let s : State := { st .wait .body (rxIn 0x5D) with decLen := 4 }
    (inputsNow s).rst = false ∧ ∃ t, step s = .next t := ⟨by decide, _, step_of_nextOf (Option.some_get (by decide : (nextOf _).isSome = true)).symm⟩

theorem test_witness_handoff_moves :
    let s : State := { st .wait .offer Inputs.quiet with decLen := 3, decBuf := [0x10, 0x10, 0x10] }
    (inputsNow s).rst = false ∧ (inputsNow s).ctrlStop = false ∧ s.arbState = .wait ∧
    s.decState = .offer ∧ (nextOf s).isSome = true := by decide

theorem test_witness_handoff_not :
    let s : State := st .wait .offer { Inputs.quiet with ctrlStop := true }
    (inputsNow s).rst = false ∧
    ¬((inputsNow s).ctrlStop = false ∧ s.arbState = .wait ∧ s.decState = .offer) ∧
    (nextOf s).isSome = true := by decide

/-- A state with short timeouts and no inputs. -/
def shortSt (a : ArbState) (d : DecState) : State :=
  { State.reset with
    cfg := { cfg with tReply := 2, tHandoff := 2, txqDepth := 3 }, arbState := a, decState := d }

theorem test_witness_wait_times_out :
    let s := shortSt .wait .hunt
    s.arbState = .wait ∧ s.arbTimer = 0 ∧ 1 ≤ s.cfg.tReply ∧
    (∀ i, i < s.cfg.tReply → (inputAt s i).rst = false ∧ (inputAt s i).ctrlStop = false) ∧
    (∀ i t, i < s.cfg.tReply → RunsTo i s t → t.decState ≠ .offer) := by
  refine ⟨by decide, by decide, by decide, by decide, fun i t hi hr => ?_⟩
  have h : ∀ i, i < 2 → holdsAfter i (shortSt .wait .hunt) (fun t => decide (t.decState ≠ .offer)) = true := by
    decide
  exact of_decide_eq_true (of_holdsAfter (h i hi) hr)

theorem test_witness_wait_is_bounded :
    (shortSt .wait .hunt).arbState = .wait ∧ (shortSt .wait .hunt).arbTimer < (shortSt .wait .hunt).cfg.tReply :=
  by decide

theorem test_witness_offer_drops :
    let s := shortSt .dispatch .offer
    let s := { s with stim := .always { Inputs.quiet with msgReady := false } }
    s.decState = .offer ∧ s.decTimer = 0 ∧ 1 ≤ s.cfg.tHandoff ∧ Undisturbed s.cfg.tHandoff s ∧
    (∀ i t, i < s.cfg.tHandoff → RunsTo i s t → t.arbState.running = true ∧ t.arbState ≠ .wait) := by
  refine ⟨by decide, by decide, by decide, by unfold Undisturbed; decide, fun i t hi hr => ?_⟩
  have h : ∀ i, i < 2 → holdsAfter i
      { shortSt .dispatch .offer with stim := .always { Inputs.quiet with msgReady := false } }
      (fun t => decide (t.arbState.running = true ∧ t.arbState ≠ .wait)) = true := by decide
  exact of_decide_eq_true (of_holdsAfter (h i hi) hr)

theorem test_witness_retry_cycle :
    let s : State := { shortSt .select .hunt with queue := [mA], stim := ⟨List.replicate 9 Inputs.quiet, [{ Inputs.quiet with rst := true }]⟩ }
    s.arbState = .select ∧ s.arbSkip = false ∧ s.decState = .hunt ∧ s.queue = [mA] ∧ mA.wf = true ∧
    mA.e ≠ 0 ∧ 1 ≤ s.cfg.tReply ∧ s.queue.length ≤ s.cfg.txqDepth ∧
    1 + (encodeFrame s.cfg.checksumAlg mA).length + s.cfg.tReply + 1 = 9 ∧ NothingOffered 9 s ∧
    TransportAccepts 9 s := by decide

/-- HANG_TX (R297) in every cycle, without end. -/
theorem test_witness_hang_tx :
    let s : State := { st .tx .hunt Inputs.quiet with cur := mE, stim := .always { Inputs.quiet with txReady := false } }
    LinkInv s ∧ s.arbState = .tx ∧
    ∀ i, (inputAt s i).rst = false ∧ (inputAt s i).ctrlStop = false ∧ (inputAt s i).txError = false ∧
      (inputAt s i).txReady = false := by
  refine ⟨⟨by decide, by decide, by decide, by decide⟩, by decide, fun i => ?_⟩
  have h : (InputStream.always { Inputs.quiet with txReady := false }).drop i =
      InputStream.always { Inputs.quiet with txReady := false } := drop_always _ i
  simp only [inputAt, h]
  decide

/-- HANG_DISPATCH and BODY_STARVE (R297) in every cycle, without end. -/
theorem test_witness_hang_dispatch :
    let s : State := { st .dispatch .body Inputs.quiet with
      rxPresent := true, rx := { n := 1, p := [1], ok := true }, decLen := 4, decBuf := [9],
      stim := .always { Inputs.quiet with msgReady := false } }
    LinkInv s ∧ s.arbState = .dispatch ∧ s.decState = .body ∧ s.arbState.running = true ∧
    ∀ i, (inputAt s i).rst = false ∧ (inputAt s i).ctrlStop = false ∧ (inputAt s i).msgReady = false ∧
      (inputAt s i).txError = false ∧ (inputAt s i).rxValid = false ∧ (inputAt s i).rxError = false := by
  refine ⟨⟨by decide, by decide, by decide, by decide⟩, by decide, by decide, by decide, fun i => ?_⟩
  have h : (InputStream.always { Inputs.quiet with msgReady := false }).drop i =
      InputStream.always { Inputs.quiet with msgReady := false } := drop_always _ i
  simp only [inputAt, h]
  decide

/-- UNEXPECTED_FOREVER (R297): the panel's reply is never of the expected type; the inputs repeat with the link cycles. -/
theorem test_witness_unexpected_cycle :
    let f := encodeFrame .fletcher16 mB
    let s : State := { st .select .hunt Inputs.quiet with
      queue := [mA],
      stim := ⟨[], List.replicate 6 Inputs.quiet ++ f.map (fun b => { Inputs.quiet with rxValid := true, rxData := b }) ++
        List.replicate 17 Inputs.quiet⟩ }
    s.arbState = .select ∧ s.arbSkip = false ∧ s.decState = .hunt ∧ s.queue = [mA] ∧ mA.wf = true ∧ mA.e ≠ 0 ∧
    s.queue.length ≤ s.cfg.txqDepth ∧ mB.wf = true ∧ mA.e.getLsbD (mB.p.getD 0 0).toNat = false ∧ f.length < s.cfg.tReply ∧
    (encodeFrame .fletcher16 mA).length + f.length + s.cfg.tReply + 6 = 28 ∧ s.stim.loop.length = 28 ∧
    (∀ i, i < 28 → (inputAt s i).rst = false ∧ (inputAt s i).ctrlStop = false ∧ (inputAt s i).cmdValid = false ∧
      (inputAt s i).rxError = false ∧ (inputAt s i).msgReady = true) ∧ TransportAccepts 28 s ∧
    (∀ i, i < 28 → (inputAt s i).rxValid = decide (6 ≤ i ∧ i < 6 + f.length)) ∧
    (∀ i, i < f.length → (inputAt s (6 + i)).rxData = f.getD i 0) := by
  decide +kernel

theorem test_witness_skip_cycle :
    let s : State := { shortSt .select .hunt with queue := [mA], arbSkip := true, stim := ⟨List.replicate 4 { Inputs.quiet with txReady := false }, [{ Inputs.quiet with rst := true }]⟩ }
    s.arbState = .select ∧ s.arbSkip = true ∧ s.decState = .hunt ∧ 1 ≤ s.cfg.tReply ∧
    1 + s.cfg.tReply + 1 = 4 ∧ NothingOffered 4 s := by decide

theorem test_witness_ended_run_off :
    let s : State := { shortSt .off .hunt with stim := ⟨[Inputs.quiet], [Inputs.quiet, Inputs.quiet]⟩ }
    quiescent s = true ∧ (∀ i, i < 2 + 1 → (inputAt s i).undriven = true) ∧ stimulusSpent s = true := by decide

theorem test_witness_ended_run_wait :
    let s : State := { shortSt .wait .hunt with stim := ⟨[Inputs.quiet], [Inputs.quiet, Inputs.quiet]⟩, rxPresent := true }
    quiescent s = true ∧ (∀ i, i < 2 + 1 → (inputAt s i).undriven = true) ∧ stimulusSpent s = true := by decide

theorem test_witness_ended_run_driver :
    let d : Driver := { Driver.init .fletcher16 [⟨0, .start⟩, ⟨4, .txhold 3⟩] with now := 7 }
    d.afterLast = true ∧ d.offering = false := by decide

theorem test_witness_sent_bytes :
    let s : State := { st .tx .hunt Inputs.quiet with cur := mE, txPos := 2 }
    LinkInv s ∧ (s.arbState = .tx → (curFrame s).take 2 = (curFrame s).take s.txPos.toNat) ∧
    (nextOf s).isSome = true := ⟨⟨by decide, by decide, by decide, by decide⟩, by decide, by decide⟩

theorem test_witness_link_inv :
    let s : State := { st .tx .body (rxIn 0x5D) with cur := mE, decLen := 4, decIdx := 1, decBuf := [1], decEsc := true, queue := [mA] }
    LinkInv s ∧ (nextOf s).isSome = true := ⟨⟨by decide, by decide, by decide, by decide⟩, by decide⟩

/-- The last state in which a retry finds room: TXQ_DEPTH - 2 entries. -/
theorem test_witness_capacity_inv :
    let s : State := { shortSt .classify .hunt with cur := mA, arbExpect := mA.e, queue := [mB] }
    CapacityInv s ∧ (nextOf s).isSome = true := by decide

/-- Two states that differ in unwritten registers alone. -/
theorem test_witness_written_inv :
    let s : State := { shortSt .wait .hunt with written := { Written.none with arbTimer := true } }
    let s' : State := { s with
      decLen := 77, decIdx := 66, decOk := true, decTimer := 9, cur := mA, txPos := 5,
      rx := { n := 1, p := [1], ok := true } }
    WrittenInv s ∧ Agree s s' ∧ s ≠ s' := by
  refine ⟨by decide, ?_, by decide +kernel⟩
  unfold Agree
  decide

end Sys2Proof.Tests
end

section
/-! PROOFS. The statements on the scope of the model: the arrays' read and write, the length of a frame, and what no
step changes. -/

namespace Sys2Proof.Proofs.Scope

open Sys2Proof.Machine

/-! ## Arrays (R15, R28) -/

/-- A write past the entries an array holds fills the gap with zeros, which is what those entries read before. -/
theorem arrayAt_append_gap (buf : List Byte) {i : Nat} (b : Byte) (hi : buf.length ≤ i) (j : Nat) :
    arrayAt (buf ++ List.replicate (i - buf.length) 0 ++ [b]) j = if j = i then b else arrayAt buf j := by
  rcases lt_trichotomy j i with hlt | rfl | hgt
  · rw [if_neg hlt.ne]
    by_cases hj : j < buf.length
    · simp [arrayAt, hj, Nat.lt_add_right]
    · have hgap : j - buf.length < i - buf.length := by omega
      rw [arrayAt_of_le buf (not_lt.1 hj)]
      simp [arrayAt, List.getElem?_append, hj, hgap]
  · simp [arrayAt, List.getElem?_append, not_lt.2 hi]
  · rw [if_neg hgt.ne', arrayAt_of_le buf (hi.trans hgt.le), arrayAt_of_le]
    simp
    omega

/-- Every element of an array after a write: the byte written at its index, the old element elsewhere. -/
theorem arrayAt_arrayWrite (buf : List Byte) (i j : Nat) (b : Byte) :
    arrayAt (arrayWrite buf i b) j = if j = i then b else arrayAt buf j := by
  by_cases hi : i < buf.length
  · rw [arrayWrite_of_lt b hi]
    by_cases hj : j = i
    · subst hj
      simp [arrayAt, hi]
    · simp [arrayAt, hj, Ne.symm hj]
  · rw [arrayWrite, if_neg hi]
    exact arrayAt_append_gap buf b (not_lt.1 hi) j

/-- Settles O10, from the equation for an element after a write. -/
theorem arrayReadAfterWrite : Obligations.ArrayReadAfterWrite := by
  intro buf i j b
  exact ⟨by rw [arrayAt_arrayWrite, if_pos rfl], fun hj => by rw [arrayAt_arrayWrite, if_neg hj]⟩

/-! ## The length of a frame (R13, R88, R160) -/

/-- A well-formed message has 1 to 253 payload bytes, and `n` counts them (R20). -/
theorem txMsg_wf_iff (m : TxMsg) :
    m.wf = true ↔ 1 ≤ m.p.length ∧ m.p.length ≤ 253 ∧ m.n.toNat = m.p.length := by
  simp [TxMsg.wf, payloadOk, and_assoc]

/-- Stuffing adds one byte for each escape byte of the payload (R161). -/
theorem stuff_length (p : List Byte) : (stuff p).length = p.length + p.countP (· == 0x7D) := by
  induction p with
  | nil => rfl
  | cons b p ih =>
    rw [stuff_cons, List.length_append, ih, List.length_cons]
    by_cases hb : b = 0x7D
    · subst hb
      rw [stuff1_esc, List.countP_cons_of_pos (by decide)]
      simp only [List.length_cons, List.length_nil]
      omega
    · rw [stuff1_other hb, List.countP_cons_of_neg (by simpa using hb), List.length_singleton]
      omega

/-- Start byte, length byte and the two trailer bytes stand around the stuffed payload. -/
theorem encodeFrame_length (alg : ChecksumAlg) (m : TxMsg) :
    (encodeFrame alg m).length = 4 + (stuff m.p).length := by
  rw [encodeFrame_eq]
  simp only [List.length_cons, List.length_append, List.length_nil]
  omega

/-- Settles O18: the payload's length bounds the number of its escape bytes. -/
theorem frameLength : Obligations.FrameLength := by
  intro alg m hwf
  obtain ⟨hmin, hmax, hn⟩ := (txMsg_wf_iff m).1 hwf
  have hlen : (encodeFrame alg m).length = 4 + m.n.toNat + m.p.countP (· == 0x7D) := by
    rw [encodeFrame_length, stuff_length, hn, Nat.add_assoc]
  have hesc : m.p.countP (· == 0x7D) ≤ m.p.length := List.countP_le_length
  exact ⟨hlen, by omega, by omega⟩

/-! ## What no step changes (R7 to R11) -/

/-- The fields outside the registers are the same: the parameters, the coming inputs and `ret`. -/
def SameSurroundings (s t : State) : Prop := t.cfg = s.cfg ∧ t.stim = s.stim ∧ t.ret = s.ret

theorem SameSurroundings.refl (s : State) : SameSurroundings s s := ⟨rfl, rfl, rfl⟩

theorem SameSurroundings.trans {s t u : State} (hst : SameSurroundings s t) (htu : SameSurroundings t u) :
    SameSurroundings s u := by
  obtain ⟨hcfg, hstim, hret⟩ := hst
  obtain ⟨hcfg', hstim', hret'⟩ := htu
  exact ⟨hcfg'.trans hcfg, hstim'.trans hstim, hret'.trans hret⟩

/-- An operation that a cycle can run, so no function operation and no stand-alone queue operation, leaves the
surroundings alone. -/
theorem exec_sameSurroundings {i : Instr} {s t : State} (hfn : i.format ≠ .fn) (hqi : i.format ≠ .qi)
    (h : exec i s = .next t) : SameSurroundings s t := by
  have decoder (hi : i.format = .dec ∨ i.format = .rx) : SameSurroundings s t := by
    obtain ⟨hcfg, hstim, -, -, -, -, -, -, -, -, -, -, hret, -⟩ := exec_decoder_frame hi h
    exact ⟨hcfg, hstim, hret⟩
  have arbiter (hi : i.format = .arb ∨ i.format = .tx ∨ i.format = .ctl) : SameSurroundings s t := by
    obtain ⟨hcfg, hstim, -, -, -, -, -, -, -, hret, -⟩ := exec_arbiter_frame hi h
    exact ⟨hcfg, hstim, hret⟩
  cases hf : i.format with
  | dec => exact decoder (.inl hf)
  | rx => exact decoder (.inr hf)
  | arb => exact arbiter (.inl hf)
  | tx => exact arbiter (.inr (.inl hf))
  | ctl => exact arbiter (.inr (.inr hf))
  | cmd => rw [exec_command_frame hf h]; exact ⟨rfl, rfl, rfl⟩
  | fn => exact absurd hf hfn
  | qi => exact absurd hf hqi

/-- A relation that is reflexive and transitive and holds over each operation of a list holds over the whole run. -/
theorem runOps_induction {R : State → State → Prop} (refl : ∀ s, R s s)
    (trans : ∀ {s t u : State}, R s t → R t u → R s u) {is : List Instr}
    (hop : ∀ i ∈ is, ∀ s t : State, exec i s = .next t → R s t) {s t : State} (h : runOps is s = .next t) : R s t := by
  induction is generalizing s with
  | nil => cases h; exact refl _
  | cons i is ih =>
    cases he : exec i s with
    | next u =>
      rw [runOps_cons_next he] at h
      exact trans (hop i List.mem_cons_self s u he) (ih (fun j hj => hop j (List.mem_cons_of_mem i hj)) h)
    | fault r => simp [runOps, he] at h
    | refused r => simp [runOps, he] at h

/-- The operations of a cycle are one of the arbiter's, one of the decoder's and the host's if there is one (R94). -/
theorem mem_cycleOps_iff {s : State} {i : Instr} :
    i ∈ cycleOps s ↔ i = arbiterOp s ∨ commandOp s = some i ∨ i = decoderOp s := by
  unfold cycleOps
  split
  · simp
  · simp [or_left_comm]

/-- A cycle runs no function operation and no stand-alone queue operation. -/
theorem format_of_mem_cycleOps {s : State} {i : Instr} (hi : i ∈ cycleOps s) :
    i.format ≠ .fn ∧ i.format ≠ .qi := by
  rcases mem_cycleOps_iff.1 hi with rfl | hc | rfl
  · rcases arbiterOp_format s with hf | hf | hf <;> simp [hf]
  · simp [commandOp_format hc]
  · rcases decoderOp_format s with hf | hf <;> simp [hf]

theorem step_of_reset {s : State} (hr : (inputsNow s).rst = true) : step s = .next (resetCore s) := if_pos hr

theorem step_of_no_reset {s : State} (hr : (inputsNow s).rst = false) :
    step s = runOps (cycleOps s) (beginCycle s) := by
  simp [step, cycle, hr]

/-- Settles O44: a reset keeps the parameters by its definition, any other cycle because each of its operations does. -/
theorem parametersAreFixed : Obligations.ParametersAreFixed := by
  intro s t h
  cases hr : (inputsNow s).rst with
  | true =>
    rw [step_of_reset hr] at h
    cases h
    exact ⟨rfl, rfl, fun hno => Bool.noConfusion hno⟩
  | false =>
    rw [step_of_no_reset hr] at h
    have hsame : SameSurroundings (beginCycle s) t :=
      runOps_induction SameSurroundings.refl SameSurroundings.trans (fun i hi u v he =>
        have ⟨hfn, hqi⟩ := format_of_mem_cycleOps hi
        exec_sameSurroundings hfn hqi he) h
    obtain ⟨hcfg, hstim, hret⟩ := hsame
    exact ⟨hcfg, hstim, fun _ => hret⟩

end Sys2Proof.Proofs.Scope
end

section
/-! PROOFS. The reset values, the output signals and the status word (R41, R42, R45). -/

namespace Sys2Proof.Proofs.Outputs

open Sys2Proof Sys2Proof.Machine

/-! ## The status word (R42): each field of the concatenation, reached past the fields below it -/

theorem extractLsb'_append_low {v w : Nat} (hi : BitVec v) (lo : BitVec w) : (hi ++ lo).extractLsb' 0 w = lo := by
  rw [BitVec.extractLsb'_append_eq_of_add_le (by omega), BitVec.extractLsb'_eq_self]

theorem statusWord_arb (s : State) : (statusWord s).extractLsb' 0 3 = arbCode s.arbState :=
  extractLsb'_append_low _ _

theorem statusWord_dec (s : State) : (statusWord s).extractLsb' 3 2 = decCode s.decState := by
  rw [statusWord]
  iterate 1 rw [BitVec.extractLsb'_append_eq_of_le (by decide)]
  exact extractLsb'_append_low _ _

theorem statusWord_link (s : State) : (statusWord s).extractLsb' 5 2 = linkCode s.arbState := by
  rw [statusWord]
  iterate 2 rw [BitVec.extractLsb'_append_eq_of_le (by decide)]
  exact extractLsb'_append_low _ _

theorem statusWord_queue (s : State) : (statusWord s).extractLsb' 10 8 = BitVec.ofNat 8 s.queue.length := by
  rw [statusWord]
  iterate 6 rw [BitVec.extractLsb'_append_eq_of_le (by decide)]
  exact extractLsb'_append_low _ _

theorem statusWord_reserved (s : State) : (statusWord s).extractLsb' 18 14 = 0 := by
  rw [statusWord]
  iterate 7 rw [BitVec.extractLsb'_append_eq_of_le (by decide)]
  exact BitVec.extractLsb'_eq_self

theorem statusWord_skip (s : State) : (statusWord s).getLsbD 7 = s.arbSkip := by
  rw [statusWord]
  iterate 3 rw [BitVec.getLsbD_append, if_neg (by decide)]
  rw [BitVec.getLsbD_append, if_pos (by decide)]
  simp

theorem statusWord_overflow (s : State) : (statusWord s).getLsbD 8 = s.txqOvf := by
  rw [statusWord]
  iterate 4 rw [BitVec.getLsbD_append, if_neg (by decide)]
  rw [BitVec.getLsbD_append, if_pos (by decide)]
  simp

theorem statusWord_expect (s : State) : (statusWord s).getLsbD 9 = (s.arbExpect != 0) := by
  rw [statusWord]
  iterate 5 rw [BitVec.getLsbD_append, if_neg (by decide)]
  rw [BitVec.getLsbD_append, if_pos (by decide)]
  simp

theorem linkCode_of_running {a : ArbState} (h : a.running = true) : linkCode a = 1 := by
  cases a <;> simp_all [ArbState.running, linkCode]

/-- Settles O42, a field at a time. -/
theorem statusFields : Obligations.StatusFields := by
  intro s
  rw [statusWord_arb, statusWord_dec, statusWord_link, statusWord_skip, statusWord_overflow, statusWord_expect]
  refine ⟨?_, ?_, ?_, ?_, ?_, ?_, ?_, ?_, ?_, ?_, ?_, ?_, ?_, linkCode_of_running, ?_, ?_, rfl, rfl, bne_iff_ne,
    statusWord_queue s, statusWord_reserved s⟩
  all_goals exact fun h => by rw [h]; rfl

/-! ## The output signals (R41) -/

theorem rxReadyOf_iff (a : ArbState) (d : DecState) :
    rxReadyOf a d = true ↔ a.running = true ∧ (d = .hunt ∨ d = .len ∨ d = .body) := by
  simp [rxReadyOf, or_assoc]

/-- Settles O40: each signal from its own definition, and none reads the coming inputs. -/
theorem outputSignals : Obligations.OutputSignals := by
  refine ⟨fun s => ⟨rxReadyOf_iff _ _, decide_eq_true_iff, fun h => if_pos h, fun h => if_neg h, cmdReady_iff s,
    decide_eq_true_iff, fun _ => ⟨rfl, rfl⟩, rfl⟩, fun _ _ => rfl⟩

/-! ## Reset (R45) -/

/-- With the default depth the host's share of the queue is not empty. -/
theorem cmdReady_reset : cmdReady State.reset = true := by decide

/-- Settles O38. -/
theorem resetValues : Obligations.ResetValues :=
  ⟨rfl, rfl, rfl, rfl, rfl, rfl, rfl, rfl, rfl, rfl, rfl, rfl, rfl, cmdReady_reset, rfl, by decide⟩

end Sys2Proof.Proofs.Outputs
end

section
/-! PROOFS. A cycle taken apart by agents: the registers of the arbiter and those of the decoder after a step are what
the agent's own operation leaves of the state at the start of the cycle (R15). -/

namespace Sys2Proof.Proofs.Agents

open Sys2Proof Sys2Proof.Machine Sys2Proof.Proofs.Scope

/-! ## The registers of one agent -/

/-- Two states have the same parameters and the same decoder registers, with their unwritten status. -/
structure SameDecoder (s t : State) : Prop where
  cfg : t.cfg = s.cfg
  decState : t.decState = s.decState
  decLen : t.decLen = s.decLen
  decIdx : t.decIdx = s.decIdx
  decEsc : t.decEsc = s.decEsc
  decBuf : t.decBuf = s.decBuf
  decOk : t.decOk = s.decOk
  decTimer : t.decTimer = s.decTimer
  decLenWritten : t.written.decLen = s.written.decLen
  decIdxWritten : t.written.decIdx = s.written.decIdx
  decOkWritten : t.written.decOk = s.written.decOk
  decTimerWritten : t.written.decTimer = s.written.decTimer

/-- Two states have the same parameters and the same arbiter registers, with their unwritten status. -/
structure SameArbiter (s t : State) : Prop where
  cfg : t.cfg = s.cfg
  arbState : t.arbState = s.arbState
  arbSkip : t.arbSkip = s.arbSkip
  arbExpect : t.arbExpect = s.arbExpect
  cur : t.cur = s.cur
  txPos : t.txPos = s.txPos
  arbTimer : t.arbTimer = s.arbTimer
  rxPresent : t.rxPresent = s.rxPresent
  rx : t.rx = s.rx
  curWritten : t.written.cur = s.written.cur
  txPosWritten : t.written.txPos = s.written.txPos
  arbTimerWritten : t.written.arbTimer = s.written.arbTimer
  rxWritten : t.written.rx = s.written.rx

theorem SameDecoder.trans {s t u : State} (hst : SameDecoder s t) (htu : SameDecoder t u) : SameDecoder s u := by
  cases hst; cases htu; constructor <;> simp [*]

theorem SameArbiter.trans {s t u : State} (hst : SameArbiter s t) (htu : SameArbiter t u) : SameArbiter s u := by
  cases hst; cases htu; constructor <;> simp [*]

theorem SameArbiter.symm {s t : State} (h : SameArbiter s t) : SameArbiter t s := by
  cases h; constructor <;> simp [*]

theorem SameDecoder.refl (s : State) : SameDecoder s s := by constructor <;> rfl

theorem SameArbiter.refl (s : State) : SameArbiter s s := by constructor <;> rfl

/-- The queue, its flag, the events, the coming inputs and `ret` belong to neither agent. -/
theorem sameDecoder_shared (s : State) (x : InputStream) (q : List TxMsg) (o : Bool) (e : BitVec 16) :
    SameDecoder s { s with stim := x, queue := q, txqOvf := o, ev := e } := by constructor <;> rfl

theorem sameArbiter_shared (s : State) (x : InputStream) (q : List TxMsg) (o : Bool) (e : BitVec 16) :
    SameArbiter s { s with stim := x, queue := q, txqOvf := o, ev := e } := by constructor <;> rfl

/-- An arbiter operation leaves the decoder's registers alone. -/
theorem exec_arbiter_sameDecoder {i : Instr} {s t : State} (hi : i.format = .arb ∨ i.format = .tx ∨ i.format = .ctl)
    (h : exec i s = .next t) : SameDecoder s t := by
  obtain ⟨_, -, _, _, _, _, _, _, _, -, _, _, _, _⟩ := exec_arbiter_frame hi h
  constructor <;> assumption

/-- A decoder operation leaves the arbiter's registers alone. -/
theorem exec_decoder_sameArbiter {i : Instr} {s t : State} (hi : i.format = .dec ∨ i.format = .rx)
    (h : exec i s = .next t) : SameArbiter s t := by
  obtain ⟨_, -, _, _, _, _, _, _, _, _, -, -, -, _, _, _, _⟩ := exec_decoder_frame hi h
  constructor <;> assumption

/-! ## An agent's operation reads only what its own agent writes, but for the hand-off and the dequeue -/

/-- What a decoder operation leaves in the decoder's registers depends on those registers alone. -/
theorem exec_decoder_congr {i : Instr} {s s' t t' : State} (hi : i.format = .dec ∨ i.format = .rx)
    (hs : SameDecoder s s') (h : exec i s = .next t) (h' : exec i s' = .next t') : SameDecoder t t' := by
  cases hs
  cases i <;> try (rcases hi with hi | hi <;> cases hi; done)
  all_goals
    cases h
    cases h'
    constructor <;> simp [toHunt, storeByte, completeVerdict, *]

theorem SameArbiter.raise {s s' : State} (h : SameArbiter s s') (e : Event) :
    SameArbiter (s.raise e) (s'.raise e) := by
  cases h; constructor <;> simp [*]

theorem SameArbiter.setArbSkip {s s' : State} (h : SameArbiter s s') (v : Bool) :
    SameArbiter (s.setArbSkip v) (s'.setArbSkip v) := by
  cases h; constructor <;> simp [*]

theorem SameArbiter.route {s s' : State} (h : SameArbiter s s') : SameArbiter (route s) (route s') := by
  cases h; constructor <;> simp [route_eq, *]

theorem sameArbiter_pushHead (m : TxMsg) (s : State) : SameArbiter s (pushHead m s) := by
  obtain ⟨q, o, e, h⟩ := pushHead_shape m s
  exact h ▸ sameArbiter_shared s s.stim q o e

theorem SameArbiter.pushHead {s s' : State} (h : SameArbiter s s') (m m' : TxMsg) :
    SameArbiter (pushHead m s) (pushHead m' s') :=
  (sameArbiter_pushHead m s).symm.trans (h.trans (sameArbiter_pushHead m' s'))

theorem sameArbiter_ackIfOwed (s : State) :
    SameArbiter s (if ackRequired s.cfg (msgType s.rx.p) = true then pushAck s else s) := by
  obtain ⟨q, o, e, h⟩ := ackIfOwed_shape s
  exact h ▸ sameArbiter_shared s s.stim q o e

theorem heldMessage_congr {s s' : State} (h : SameDecoder s s') : heldMessage s' = heldMessage s := by
  simp [heldMessage, h.decLen, h.decBuf, h.decOk]

/-- ARB.SELECT_SEND on a queue that holds a message (R180). -/
theorem exec_send {s : State} {m : TxMsg} {rest : List TxMsg} (hq : s.queue = m :: rest) :
    exec .arbSelectSend s =
      .next (((((s.setQueue rest).setCur m).setArbExpect m.e).setTxPos 0).setArbState .tx) := by
  simp only [exec, execArbSelectSend, hq]

theorem exec_send_next {s t : State} (h : exec .arbSelectSend s = .next t) :
    ∃ m rest, s.queue = m :: rest ∧
      t = ((((s.setQueue rest).setCur m).setArbExpect m.e).setTxPos 0).setArbState .tx := by
  cases hq : s.queue with
  | nil => simp [exec, execArbSelectSend, hq] at h
  | cons m rest =>
    rw [exec_send hq] at h
    cases h
    exact ⟨m, rest, rfl, rfl⟩

/-- What an arbiter operation leaves in the arbiter's registers depends on the agents' registers alone, and for the
dequeue on the queue. -/
theorem exec_arbiter_congr {i : Instr} {s s' t t' : State} (hi : i.format = .arb ∨ i.format = .tx ∨ i.format = .ctl)
    (ha : SameArbiter s s') (hd : SameDecoder s s') (hq : i = .arbSelectSend → s'.queue = s.queue)
    (h : exec i s = .next t) (h' : exec i s' = .next t') : SameArbiter t t' := by
  cases i <;> try (rcases hi with hi | hi | hi <;> cases hi; done)
  case arbSelectSend =>
    obtain ⟨m, rest, hm, rfl⟩ := exec_send_next h
    rw [exec_send ((hq rfl).trans hm)] at h'
    cases h'; cases ha
    constructor <;> simp [*]
  case arbClsUnsolicited =>
    cases h; cases h'
    exact ((sameArbiter_ackIfOwed s).symm.trans (ha.trans (sameArbiter_ackIfOwed s'))).route
  case arbClsRetry => cases h; cases h'; exact ((ha.pushHead _ _).raise _).route
  case arbClsUnexpected => cases h; cases h'; exact (((ha.pushHead _ _).setArbSkip _).raise _).route
  case arbClsIdle => cases h; cases h'; exact (ha.raise _).route
  case arbClsMatch => cases h; cases h'; exact (ha.raise _).route
  case arbWaitRecv =>
    cases h; cases h'
    have hm := heldMessage_congr hd
    cases ha
    constructor <;> simp [*]
  all_goals
    cases h; cases h'; cases ha
    constructor <;> simp [enterWait, enterDead, *]

/-! ## The step -/

/-- Every operation but the dequeue answers a next state, and so does the dequeue of a queue that is not empty. -/
theorem exec_total {i : Instr} {s : State} (hq : i = .arbSelectSend → s.queue ≠ []) : ∃ t, exec i s = .next t := by
  by_cases hi : i = .arbSelectSend
  · subst hi
    obtain ⟨m, rest, hm⟩ := List.exists_cons_of_ne_nil (hq rfl)
    exact ⟨_, exec_send hm⟩
  · exact exec_next hi s

/-- The dequeue is selected only where the queue holds a message (R180). -/
theorem queue_ne_nil_of_send {s : State} (h : arbiterOp s = .arbSelectSend) : s.queue ≠ [] := by
  rcases arbiterOp_cases s with h' | h' | ⟨-, h'⟩
  · simp [h] at h'
  · simp [h] at h'
  · simp only [h, reduceCtorEq, false_and, false_or, or_false, true_and] at h'
    exact List.ne_nil_of_length_pos h'.2.2

theorem decoderOp_ne_send (s : State) : decoderOp s ≠ .arbSelectSend := by
  intro h
  rcases decoderOp_format s with hf | hf <;> rw [h] at hf <;> cases hf

theorem beginCycle_sameAgents (s : State) : SameArbiter s (beginCycle s) ∧ SameDecoder s (beginCycle s) :=
  ⟨sameArbiter_shared s s.stim.next s.queue s.txqOvf 0, sameDecoder_shared s s.stim.next s.queue s.txqOvf 0⟩

/-- The host's operation of a cycle leaves both agents' registers alone. -/
theorem runOps_commandOp_sameAgents {s u v : State} (h : runOps (commandOp s).toList u = .next v) :
    SameArbiter u v ∧ SameDecoder u v := by
  rw [runOps_commandOp_frame h]
  exact ⟨sameArbiter_shared u u.stim v.queue u.txqOvf v.ev, sameDecoder_shared u u.stim v.queue u.txqOvf v.ev⟩

/-- The states on which the arbiter's and the decoder's operation of a cycle act: the arbiter's on one that differs
from the state before the cycle in neither agent's registers, the decoder's on one that differs in no agent's registers
from what the arbiter's operation left. -/
theorem step_operations {s t : State} (hr : (inputsNow s).rst = false) (h : step s = .next t) :
    ∃ u u' v, exec (arbiterOp s) u = .next u' ∧ exec (decoderOp s) v = .next t ∧
      (SameArbiter s u ∧ SameDecoder s u) ∧ (arbiterOp s = .arbSelectSend → u.queue = s.queue) ∧
      (SameArbiter u' v ∧ SameDecoder u' v) := by
  obtain ⟨ha, hd⟩ := beginCycle_sameAgents s
  obtain ⟨u, v, hdec, ⟨hsend, harb, hcmd⟩ | ⟨hsend, hcmd, harb⟩⟩ := step_next_parts hr h
  · exact ⟨beginCycle s, u, v, hsend ▸ harb, hdec, ⟨ha, hd⟩, fun _ => rfl, runOps_commandOp_sameAgents hcmd⟩
  · obtain ⟨hau, hdu⟩ := runOps_commandOp_sameAgents hcmd
    exact ⟨u, v, v, harb, hdec, ⟨ha.trans hau, hd.trans hdu⟩, fun hs => absurd hs hsend, SameArbiter.refl v,
      SameDecoder.refl v⟩

/-- The decoder's registers after a cycle are those its operation leaves of the state before the cycle, and so are the
arbiter's (R15). -/
theorem step_agents {s t : State} (hr : (inputsNow s).rst = false) (h : step s = .next t) :
    ∃ a d, exec (arbiterOp s) s = .next a ∧ SameArbiter a t ∧ exec (decoderOp s) s = .next d ∧ SameDecoder d t := by
  obtain ⟨u, u', v, harb, hdec, ⟨hau, hdu⟩, hq, hav, hdv⟩ := step_operations hr h
  obtain ⟨a, ha⟩ := exec_total (i := arbiterOp s) (s := s) queue_ne_nil_of_send
  obtain ⟨d, hd⟩ := exec_next (decoderOp_ne_send s) s
  have hsv : SameDecoder s v := (hdu.trans (exec_arbiter_sameDecoder (arbiterOp_format s) harb)).trans hdv
  have hau' : SameArbiter a u' := exec_arbiter_congr (arbiterOp_format s) hau hdu hq ha harb
  exact ⟨a, d, ha, (hau'.trans hav).trans (exec_decoder_sameArbiter (decoderOp_format s) hdec), hd,
    exec_decoder_congr (decoderOp_format s) hsv hd hdec⟩

/-! ## What the operation of a cycle without reset leaves of the state before the cycle -/

/-- The state that the decoder's operation of a cycle leaves, with what its selection says where a proof needs it
(R110 to R125). -/
inductive DecoderEffect (s : State) : State → Prop
  | disabled : DecoderEffect s (toHunt s)
  | handoff (hst : s.decState = .offer) : DecoderEffect s ((s.setDecState .hunt).raise .handoff)
  | drop (hst : s.decState = .offer) : DecoderEffect s ((s.setDecState .hunt).raise .handoffDrop)
  | offerHold (hst : s.decState = .offer) (ht : s.decTimer + 1 ≠ s.cfg.tHandoff) :
      DecoderEffect s (s.setDecTimer (s.decTimer + 1))
  | abort : DecoderEffect s ((toHunt s).raise .rxAbort)
  | idle : DecoderEffect s s
  | sync (hst : s.decState = .hunt) : DecoderEffect s (s.setDecState .len)
  | lenOk (b : Byte) (hst : s.decState = .len) (hb : 3 ≤ b.toNat) :
      DecoderEffect s ((((s.setDecLen b).setDecIdx 0).setDecEsc false).setDecState .body)
  | lenBad (hst : s.decState = .len) : DecoderEffect s ((s.setDecState .hunt).raise .lenErr)
  | unstuff (b : Byte) (hst : s.decState = .body) (he : s.decEsc = true) :
      DecoderEffect s ((storeByte (b ||| stuffBit) s).setDecEsc false)
  | esc (hst : s.decState = .body) (hi : s.decIdx.toNat + 2 < s.decLen.toNat) : DecoderEffect s (s.setDecEsc true)
  | store (b : Byte) (hst : s.decState = .body) (he : s.decEsc = false)
      (hi : s.decIdx.toNat + 2 ≤ s.decLen.toNat) : DecoderEffect s (storeByte b s)
  | complete (b : Byte) (hst : s.decState = .body) (he : s.decEsc = false)
      (hi : s.decLen.toNat < s.decIdx.toNat + 2) :
      DecoderEffect s ((((((s.setDecBuf (s.decLen.toNat - 1) b).setDecIdx s.decLen).setDecOk
        (completeVerdict b s)).setDecTimer 0).setDecState .offer).raise .frameDone)

/-- To say something of what the operation of a cycle leaves, it is enough to say it of what the operation that was
selected leaves. -/
theorem of_exec {P : State → Prop} {i j : Instr} {s t u : State} (h : exec i s = .next t) (hop : i = j)
    (hj : exec j s = .next u) (hu : P u) : P t := by
  rw [hop, hj] at h
  cases h
  exact hu

theorem exec_decoderOp_effect {s d : State} (h : exec (decoderOp s) s = .next d) : DecoderEffect s d := by
  rcases decoderOp_cases s with ⟨hop, -⟩ | ⟨-, ⟨hop, hst, -⟩ | ⟨hop, hst, -⟩ | ⟨hop, hst, -, ht⟩ | ⟨hop, -⟩ |
      ⟨hop, -⟩ | ⟨-, ⟨hop, hst, -⟩ | ⟨hop, -⟩ | ⟨hop, hst, hb⟩ | ⟨hop, hst, -⟩ | ⟨hop, hst, he⟩ |
      ⟨hop, hst, he, hi, -⟩ | ⟨hop, hst, he, hi, -⟩ | ⟨hop, hst, he, hi⟩ | ⟨hop, hst, he, hi⟩⟩⟩
  · exact of_exec h hop rfl .disabled
  · exact of_exec h hop rfl (.handoff hst)
  · exact of_exec h hop rfl (.drop hst)
  · exact of_exec h hop rfl (.offerHold hst ht)
  · exact of_exec h hop rfl .abort
  · exact of_exec h hop rfl .idle
  · exact of_exec h hop rfl (.sync hst)
  · exact of_exec h hop rfl .idle
  · exact of_exec h hop rfl (.lenOk _ hst hb)
  · exact of_exec h hop rfl (.lenBad hst)
  · exact of_exec h hop rfl (.unstuff _ hst he)
  · exact of_exec h hop rfl (.esc hst hi)
  · exact of_exec h hop rfl (.store _ hst he hi.le)
  · exact of_exec h hop rfl (.store _ hst he hi.le)
  · exact of_exec h hop rfl (.complete _ hst he hi)

/-- The state that the arbiter's operation of a cycle leaves, with what its selection says where a proof needs it
(R162 to R165, R180 to R193, R240 to R243). Every operation of CLASSIFY ends in `route()`, put to a state that differs
from the one before it, as far as the arbiter's registers go, in the skip flag at most. -/
inductive ArbiterEffect (s : State) : State → Prop
  | halted (hst : s.arbState = .dead ∨ s.arbState = .stopped) : ArbiterEffect s s
  | stop (hstop : (inputsNow s).ctrlStop = true) : ArbiterEffect s (s.setArbState .stopped)
  | start (hst : s.arbState = .off) : ArbiterEffect s (s.setArbState .select)
  | idle (hst : s.arbState = .off) : ArbiterEffect s s
  | skip (hst : s.arbState = .select) : ArbiterEffect s (enterWait ((s.setArbSkip false).setArbExpect 0))
  | send (m : TxMsg) (rest : List TxMsg) (hst : s.arbState = .select) (hsk : s.arbSkip = false)
      (hq : s.queue = m :: rest) :
      ArbiterEffect s (((((s.setQueue rest).setCur m).setArbExpect m.e).setTxPos 0).setArbState .tx)
  | empty (hst : s.arbState = .select) (hsk : s.arbSkip = false) : ArbiterEffect s (enterWait (s.setArbExpect 0))
  | txError (hst : s.arbState = .tx) (hx : (inputsNow s).txError = true) : ArbiterEffect s (enterDead s)
  | txLast (hst : s.arbState = .tx) (hr : (inputsNow s).txReady = true)
      (hl : s.txPos.toNat + 1 = (curFrame s).length) : ArbiterEffect s ((enterWait s).raise .txDone)
  | txByte (hst : s.arbState = .tx) (hr : (inputsNow s).txReady = true)
      (hl : s.txPos.toNat + 1 ≠ (curFrame s).length) : ArbiterEffect s (s.setTxPos (s.txPos + 1))
  | txStall (hst : s.arbState = .tx) (hr : (inputsNow s).txReady = false) : ArbiterEffect s s
  | waitRecv (hst : s.arbState = .wait) (hd : s.decState = .offer) :
      ArbiterEffect s (((s.setRxPresent true).setRx (heldMessage s)).setArbState .classify)
  | waitTimeout (hst : s.arbState = .wait) : ArbiterEffect s ((s.setRxPresent false).setArbState .classify)
  | waitTick (hst : s.arbState = .wait) (ht : s.arbTimer + 1 ≠ s.cfg.tReply) :
      ArbiterEffect s (s.setArbTimer (s.arbTimer + 1))
  | classify (u : State) (k : Bool) (hst : s.arbState = .classify) (hu : SameArbiter (s.setArbSkip k) u) :
      ArbiterEffect s (route u)
  | dispatchDone (hst : s.arbState = .dispatch) : ArbiterEffect s ((s.raise .dispatched).setArbState .select)
  | dispatchHold (hst : s.arbState = .dispatch) : ArbiterEffect s s

theorem exec_arbiterOp_effect {s a : State} (h : exec (arbiterOp s) s = .next a) : ArbiterEffect s a := by
  rcases arbiterOp_cases s with ⟨hop, hst⟩ | ⟨hop, -, -, hst⟩ | ⟨-, ⟨hop, hst, -⟩ | ⟨hop, hst, -⟩ | ⟨hop, hst, -⟩ |
      ⟨hop, hst, hsk, hlen⟩ | ⟨hop, hst, hsk, -⟩ | ⟨hop, hst, hx⟩ | ⟨hop, hst, -, hr, hl⟩ | ⟨hop, hst, -, hr, hl⟩ |
      ⟨hop, hst, -, hr⟩ | ⟨hop, hst, hd⟩ | ⟨hop, hst, -⟩ | ⟨hop, hst, -, ht⟩ | ⟨hop, hst, -⟩ | ⟨hop, hst, -⟩ |
      ⟨hop, hst, -⟩ | ⟨hop, hst, -⟩ | ⟨hop, hst, -⟩ | ⟨hop, hst, -⟩ | ⟨hop, hst, -⟩⟩
  · exact of_exec h hop rfl (.halted hst)
  · exact of_exec h hop rfl (.stop hst)
  · exact of_exec h hop rfl (.start hst)
  · exact of_exec h hop rfl (.idle hst)
  · exact of_exec h hop rfl (.skip hst)
  · obtain ⟨m, rest, hq⟩ := List.exists_cons_of_length_pos hlen
    exact of_exec h hop (exec_send hq) (.send m rest hst hsk hq)
  · exact of_exec h hop rfl (.empty hst hsk)
  · exact of_exec h hop rfl (.txError hst hx)
  · exact of_exec h hop rfl (.txLast hst hr hl)
  · exact of_exec h hop rfl (.txByte hst hr hl)
  · exact of_exec h hop rfl (.txStall hst hr)
  · exact of_exec h hop rfl (.waitRecv hst hd)
  · exact of_exec h hop rfl (.waitTimeout hst)
  · exact of_exec h hop rfl (.waitTick hst ht)
  · exact of_exec h hop rfl (.classify _ s.arbSkip hst (sameArbiter_ackIfOwed s))
  · exact of_exec h hop rfl (.classify _ s.arbSkip hst (sameArbiter_shared s _ _ _ _))
  · exact of_exec h hop rfl (.classify _ s.arbSkip hst
      ((sameArbiter_pushHead s.cur s).trans (sameArbiter_shared _ _ _ _ _)))
  · exact of_exec h hop rfl (.classify _ true hst
      (((sameArbiter_pushHead s.cur s).setArbSkip true).trans (sameArbiter_shared _ _ _ _ _)))
  · exact of_exec h hop rfl (.classify _ s.arbSkip hst (sameArbiter_shared s _ _ _ _))
  · exact of_exec h hop rfl (.dispatchDone hst)
  · exact of_exec h hop rfl (.dispatchHold hst)

/-- The registers after a cycle without reset: each agent's are those its own operation leaves of the state before the
cycle. -/
theorem step_effects {s t : State} (hr : (inputsNow s).rst = false) (h : step s = .next t) :
    ∃ a d, ArbiterEffect s a ∧ SameArbiter a t ∧ DecoderEffect s d ∧ SameDecoder d t := by
  obtain ⟨a, d, ha, hat, hd, hdt⟩ := step_agents hr h
  exact ⟨a, d, exec_arbiterOp_effect ha, hat, exec_decoderOp_effect hd, hdt⟩

end Sys2Proof.Proofs.Agents
end

section
/-! PROOFS. The events of a cycle: which operations raise them, and that the overflow flag goes with its event. -/

namespace Sys2Proof.Proofs.Events

open Sys2Proof Sys2Proof.Machine Sys2Proof.Proofs.Scope Sys2Proof.Proofs.Agents

/-! ## The events of decoder, transmitter and command port (R260) -/

/-- The port event an operation raises, if it raises one; it does so whatever the state. -/
def portEvent : Instr → Option Event
  | .decAbort => some .rxAbort
  | .decLenBad _ => some .lenErr
  | .decComplete _ => some .frameDone
  | .decDrop => some .handoffDrop
  | .decHandoff => some .handoff
  | .txLast => some .txDone
  | .qCmdBad _ _ _ _ => some .cmdErr
  | .txError => some .txErr
  | .decDisabled | .decOfferHold | .decIdle | .decSync | .decHuntSkip _ | .decLenOk _ | .decUnstuff _ | .decEsc
  | .decData _ | .decTrailer _ | .csumCompute _ | .csumCheck _ _ _ | .csumGen _ | .encFrame _ | .encStuff _
  | .ctlHalted | .ctlStop | .ctlStart | .ctlIdle | .arbSelectSkip | .arbSelectSend | .arbSelectEmpty | .txByte
  | .txStall | .arbWaitRecv | .arbWaitTimeout | .arbWaitTick | .arbClsUnsolicited | .arbClsIdle | .arbClsRetry
  | .arbClsUnexpected | .arbClsMatch | .arbDispatchDone | .arbDispatchHold | .qSend _ _ _ | .qSendPriority _ _ _
  | .qPop | .qPushHead _ | .qPushOvf _ => none

/-- The events that only the operations of `portEvent` raise. -/
def IsPortEvent (e : Event) : Prop :=
  e = .rxAbort ∨ e = .lenErr ∨ e = .frameDone ∨ e = .handoffDrop ∨ e = .handoff ∨ e = .txDone ∨ e = .cmdErr ∨
    e = .txErr

theorem eventCode_injective : Function.Injective Event.code := by
  intro e e'
  cases e <;> cases e' <;> simp [Event.code]

theorem raise_ev_code (e e' : Event) (s : State) :
    (s.raise e').ev.getLsbD e.code = (s.ev.getLsbD e.code || decide (e' = e)) := by
  rw [raise_ev_getLsbD]
  simp [eventCode_injective.eq_iff, eq_comm]

theorem IsPortEvent.ne {e e' : Event} (he : IsPortEvent e) (he' : ¬ IsPortEvent e') : e' ≠ e :=
  fun h => he' (h ▸ he)

/-- Raising one of the other events leaves the port events. -/
theorem raise_ev_port {e e' : Event} (he : IsPortEvent e) (he' : ¬ IsPortEvent e') (s : State) :
    (s.raise e').ev.getLsbD e.code = s.ev.getLsbD e.code := by
  simp [raise_ev_code, he.ne he', -State.raise_ev]

theorem route_ev_port {e : Event} (he : IsPortEvent e) (s : State) :
    (route s).ev.getLsbD e.code = s.ev.getLsbD e.code := by
  unfold route
  split_ifs
  · rfl
  · exact raise_ev_port he (by simp [IsPortEvent]) s
  · rfl

theorem pushHead_ev_port {e : Event} (he : IsPortEvent e) (m : TxMsg) (s : State) :
    (pushHead m s).ev.getLsbD e.code = s.ev.getLsbD e.code := by
  unfold pushHead
  split_ifs
  · rfl
  · exact raise_ev_port he (by simp [IsPortEvent]) _

theorem pushAck_ev_port {e : Event} (he : IsPortEvent e) (s : State) :
    (pushAck s).ev.getLsbD e.code = s.ev.getLsbD e.code := by
  unfold pushAck
  split_ifs
  · rw [raise_ev_port he (by simp [IsPortEvent]), pushHead_ev_port he]
  · exact pushHead_ev_port he _ _

/-- What an operation does to a port event's bit: the eight operations of `portEvent` raise theirs, no other raises
one. -/
theorem exec_ev_port {e : Event} (he : IsPortEvent e) {i : Instr} {s t : State} (h : exec i s = .next t) :
    t.ev.getLsbD e.code = (s.ev.getLsbD e.code || decide (portEvent i = some e)) := by
  cases i
  case arbSelectSend =>
    obtain ⟨m, rest, -, rfl⟩ := exec_send_next h
    simp [portEvent]
  all_goals cases h
  case decAbort | decLenBad | decComplete | decDrop | decHandoff | txLast | qCmdBad | txError =>
    simp [portEvent, raise_ev_code, toHunt, enterWait, enterDead, -State.raise_ev]
  case arbClsUnsolicited =>
    rw [route_ev_port he]
    split_ifs <;> simp [pushAck_ev_port he, portEvent]
  case arbClsRetry | arbClsUnexpected =>
    rw [route_ev_port he, raise_ev_port he (by simp [IsPortEvent])]
    simp [pushHead_ev_port he, portEvent]
  case arbClsIdle | arbClsMatch =>
    rw [route_ev_port he, raise_ev_port he (by simp [IsPortEvent])]
    simp [portEvent]
  case arbDispatchDone =>
    rw [State.setArbState_ev, raise_ev_port he (by simp [IsPortEvent])]
    simp [portEvent]
  case qPushHead => simp [pushHead_ev_port he, portEvent]
  case qPushOvf => simp [pushOverflow, raise_ev_port he, IsPortEvent, portEvent, -State.raise_ev]
  all_goals simp [portEvent, toHunt, storeByte, enterWait]

theorem runOps_ev_port {e : Event} (he : IsPortEvent e) {is : List Instr} {s t : State}
    (h : runOps is s = .next t) :
    t.ev.getLsbD e.code = (s.ev.getLsbD e.code || is.any fun i => decide (portEvent i = some e)) := by
  induction is generalizing s with
  | nil => cases h; simp
  | cons i is ih =>
    obtain ⟨u, hi, his⟩ := runOps_append_next (is := [i]) h
    rw [ih his, exec_ev_port he (runOps_single hi), List.any_cons, Bool.or_assoc]

/-- A port event is set after a cycle exactly when one of the cycle's operations raises it, since `ev` starts cleared
(R39). -/
theorem step_ev_port {e : Event} (he : IsPortEvent e) {s t : State} (hr : (inputsNow s).rst = false)
    (h : step s = .next t) :
    t.ev.getLsbD e.code = true ↔ portEvent (arbiterOp s) = some e ∨
      (∃ c, commandOp s = some c ∧ portEvent c = some e) ∨ portEvent (decoderOp s) = some e := by
  rw [step_of_no_reset hr] at h
  rw [runOps_ev_port he h]
  have hclear : (beginCycle s).ev.getLsbD e.code = false := BitVec.getLsbD_zero
  simp only [hclear, Bool.false_or, List.any_eq_true, decide_eq_true_eq, mem_cycleOps_iff]
  constructor
  · rintro ⟨i, rfl | hc | rfl, hi⟩
    · exact .inl hi
    · exact .inr (.inl ⟨i, hc, hi⟩)
    · exact .inr (.inr hi)
  · rintro (hi | ⟨c, hc, hi⟩ | hi)
    · exact ⟨_, .inl rfl, hi⟩
    · exact ⟨c, .inr (.inl hc), hi⟩
    · exact ⟨_, .inr (.inr rfl), hi⟩

/-- When the decoder raises which port event (R116, R121, R122, R124, R125). -/
theorem portEvent_decoderOp {s : State} (hr : (inputsNow s).rst = false) (e : Event) :
    portEvent (decoderOp s) = some e ↔
      (Event.rxAbort = e ∧ Live s ∧ (s.decState = .len ∨ s.decState = .body) ∧ (inputsNow s).rxError = true) ∨
      (Event.lenErr = e ∧ Receives (inputsNow s).rxData s ∧ s.decState = .len ∧ (inputsNow s).rxData.toNat < 3) ∨
      (Event.frameDone = e ∧ Receives (inputsNow s).rxData s ∧ s.decState = .body ∧ s.decEsc = false ∧
        s.decLen.toNat < s.decIdx.toNat + 2) ∨
      (Event.handoffDrop = e ∧ Live s ∧ s.decState = .offer ∧ s.arbState ≠ .wait ∧ s.decTimer + 1 = s.cfg.tHandoff) ∨
      (Event.handoff = e ∧ Live s ∧ s.decState = .offer ∧ s.arbState = .wait) := by
  rcases decoderOp_cases s with ⟨hop, hoff⟩ | ⟨⟨hrun, hstop, herr⟩, hcases⟩
  · have hdead : ¬ Live s := by
      rintro ⟨-, hrun, hstop, herr⟩
      rcases hoff with h | h | ⟨htx, h⟩
      · simp [hrun] at h
      · simp [hstop] at h
      · simp [herr htx] at h
    simp [hop, portEvent, Receives, eq_false hdead]
  · have hlive : Live s := ⟨hr, hrun, hstop, herr⟩
    rcases hcases with ⟨hop, hd, ha⟩ | ⟨hop, hd, ha, ht⟩ | ⟨hop, hd, ha, ht⟩ | ⟨hop, hx, hd⟩ | ⟨hop, hd, hx⟩ |
        ⟨⟨hx, hv⟩, hcases⟩
    · simp [hop, portEvent, eq_true hlive, hd, ha]
    · simp [hop, portEvent, eq_true hlive, hd, ha, ht]
    · simp [hop, portEvent, hd, ha, ht]
    · rcases hd with hd | hd <;> simp [hop, portEvent, eq_true hlive, hd, hx]
    · rcases hx with ⟨hx, hd⟩ | ⟨hx, hv⟩
      · simp [hop, portEvent, hd]
      · simp [hop, portEvent, hd, hx, hv]
    · have hrec : Receives (inputsNow s).rxData s := ⟨hlive, hx, hv, rfl⟩
      rcases hcases with ⟨hop, hd, hb⟩ | ⟨hop, hd, hb⟩ | ⟨hop, hd, hb⟩ | ⟨hop, hd, hb⟩ | ⟨hop, hd, hb⟩ |
        ⟨hop, hd, hb, hi, -⟩ | ⟨hop, hd, hb, hi, -⟩ | ⟨hop, hd, hb, hi⟩ | ⟨hop, hd, hb, hi⟩
      · simp [hop, portEvent, hd]
      · simp [hop, portEvent, hd]
      · simp [hop, portEvent, hd, hx, hb]
      · simp [hop, portEvent, hd, hx, hb, eq_true hrec]
      · simp [hop, portEvent, hd, hx, hb]
      · simp [hop, portEvent, hd, hx, hi.le]
      · simp [hop, portEvent, hd, hx, hi.le]
      · simp [hop, portEvent, hd, hx, hi.le]
      · simp [hop, portEvent, hd, hx, hb, hi, eq_true hrec]

/-- When the arbiter, as the transmitter, raises which port event (R163, R165). -/
theorem portEvent_arbiterOp {s : State} (hr : (inputsNow s).rst = false) (e : Event) :
    portEvent (arbiterOp s) = some e ↔
      (Event.txDone = e ∧ Live s ∧ s.arbState = .tx ∧ (inputsNow s).txReady = true ∧
        s.txPos.toNat + 1 = (curFrame s).length) ∨
      (Event.txErr = e ∧ Acts s ∧ s.arbState = .tx ∧ (inputsNow s).txError = true) := by
  by_cases htx : s.arbState = .tx
  · have hcases := arbiterOp_cases s
    simp only [htx, reduceCtorEq, ne_eq, not_false_eq_true, true_and, false_and, and_false, or_false, false_or]
      at hcases
    rcases hcases with ⟨hop, hstop⟩ | ⟨hstop, ⟨hop, herr⟩ | ⟨hop, herr, hready, hlast⟩ | ⟨hop, herr, hready, hlast⟩ |
        ⟨hop, herr, hready⟩⟩
    · simp [hop, portEvent, hstop]
    · have hacts : Acts s := ⟨hr, hstop⟩
      have hdead : ¬ Live s := fun ⟨_, _, _, hno⟩ => by simp [hno htx] at herr
      simp [hop, portEvent, htx, herr, eq_true hacts, eq_false hdead]
    · have hlive : Live s := ⟨hr, by rw [htx]; rfl, hstop, fun _ => herr⟩
      simp [hop, portEvent, htx, herr, hready, hlast, eq_true hlive]
    · simp [hop, portEvent, herr, hlast]
    · simp [hop, portEvent, herr, hready]
  · have hcases := arbiterOp_cases s
    simp only [htx, false_and, and_false, false_or] at hcases
    rcases hcases with h | h | ⟨-, h | h | h | h | h | h | h | h | h | h | h | h | h | h | h⟩ <;>
      simp [h.1, portEvent, htx]

/-- When the host's command raises EV_CMD_ERR (R223). -/
theorem portEvent_commandOp {s : State} (hr : (inputsNow s).rst = false) (e : Event) :
    (∃ c, commandOp s = some c ∧ portEvent c = some e) ↔
      Event.cmdErr = e ∧ Commands s ∧ commandLengthOk (inputsNow s).cmdLen = false := by
  rcases commandOp_cases s with ⟨hop, hno⟩ | ⟨⟨hv, hready⟩, ⟨hop, hlen⟩ | ⟨hop, hlen, -⟩ | ⟨hop, hlen, -⟩⟩
  · have hno' : ¬ Commands s := by
      rintro ⟨-, hv, hready⟩
      rw [hv, (cmdReady_iff s).2 hready] at hno
      simp at hno
    simp [hop, eq_false hno']
  · have hc : Commands s := ⟨hr, hv, (cmdReady_iff s).1 hready⟩
    simp [hop, portEvent, eq_true hc, hlen]
  · simp [hop, portEvent, hlen]
  · simp [hop, portEvent, hlen]

theorem exists_receives_iff {s : State} {P : Byte → Prop} :
    (∃ b, Receives b s ∧ P b) ↔ Receives (inputsNow s).rxData s ∧ P (inputsNow s).rxData := by
  constructor
  · rintro ⟨b, ⟨hlive, hx, hv, rfl⟩, hb⟩
    exact ⟨⟨hlive, hx, hv, rfl⟩, hb⟩
  · exact fun h => ⟨_, h⟩

/-- Settles O46: each bit is the event of one operation, and the operation map says when that one is selected. -/
theorem portEventsExactly : Obligations.PortEventsExactly := by
  intro s t hr h
  have key (e : Event) (he : IsPortEvent e) := step_ev_port he hr h
  simp only [portEvent_arbiterOp hr, portEvent_commandOp hr, portEvent_decoderOp hr] at key
  simp only [exists_receives_iff]
  refine ⟨(key .rxAbort ?_).trans ?_, (key .lenErr ?_).trans ?_, (key .frameDone ?_).trans ?_,
    (key .handoffDrop ?_).trans ?_, (key .handoff ?_).trans ?_, (key .txDone ?_).trans ?_, (key .cmdErr ?_).trans ?_,
    (key .txErr ?_).trans ?_⟩
  all_goals simp [IsPortEvent]

/-! ## The overflow flag (R38, R226) -/

/-- A stretch of a cycle sets the overflow flag and EV_TXQ_OVF together or neither. -/
def OverflowTogether (s t : State) : Prop :=
  ∃ o, t.txqOvf = (s.txqOvf || o) ∧ t.ev.getLsbD 13 = (s.ev.getLsbD 13 || o)

theorem OverflowTogether.refl (s : State) : OverflowTogether s s := ⟨false, by simp⟩

theorem OverflowTogether.trans {s t u : State} (hst : OverflowTogether s t) (htu : OverflowTogether t u) :
    OverflowTogether s u := by
  obtain ⟨o, hovf, hev⟩ := hst
  obtain ⟨o', hovf', hev'⟩ := htu
  exact ⟨o || o', by rw [hovf', hovf, Bool.or_assoc], by rw [hev', hev, Bool.or_assoc]⟩

/-- Neither the flag nor the event changes. -/
theorem OverflowTogether.of_unchanged {s t : State} (hovf : t.txqOvf = s.txqOvf)
    (hev : t.ev.getLsbD 13 = s.ev.getLsbD 13) : OverflowTogether s t :=
  ⟨false, by rw [hovf, Bool.or_false], by rw [hev, Bool.or_false]⟩

theorem overflowTogether_raise {e : Event} (he : e ≠ .txqOvf) (s : State) : OverflowTogether s (s.raise e) := by
  refine .of_unchanged rfl ?_
  have h := raise_ev_code .txqOvf e s
  rwa [decide_eq_false he, Bool.or_false] at h

theorem overflowTogether_pushOverflow (s : State) : OverflowTogether s (pushOverflow s) :=
  ⟨true, by simp [pushOverflow], by rw [pushOverflow, raise_ev_getLsbD]; rfl⟩

theorem overflowTogether_pushHead (m : TxMsg) (s : State) : OverflowTogether s (pushHead m s) := by
  unfold pushHead
  split_ifs
  · exact .of_unchanged rfl rfl
  · exact overflowTogether_pushOverflow s

theorem overflowTogether_pushAck (s : State) : OverflowTogether s (pushAck s) := by
  unfold pushAck
  split_ifs
  · exact (overflowTogether_pushHead _ s).trans (overflowTogether_raise (by simp) _)
  · exact overflowTogether_pushHead _ s

theorem overflowTogether_route (s : State) : OverflowTogether s (route s) := by
  unfold route
  split_ifs
  · exact .of_unchanged rfl rfl
  · exact (overflowTogether_raise (by simp) s).trans (.of_unchanged rfl rfl)
  · exact .of_unchanged rfl rfl

theorem exec_overflowTogether {i : Instr} {s t : State} (h : exec i s = .next t) : OverflowTogether s t := by
  cases i
  case arbSelectSend =>
    obtain ⟨m, rest, -, rfl⟩ := exec_send_next h
    exact .of_unchanged rfl rfl
  case arbClsUnsolicited =>
    cases h
    refine .trans ?_ (overflowTogether_route _)
    split_ifs
    · exact overflowTogether_pushAck s
    · exact .refl s
  all_goals cases h
  case arbClsRetry =>
    exact ((overflowTogether_pushHead _ s).trans (overflowTogether_raise (by simp) _)).trans (overflowTogether_route _)
  case arbClsUnexpected =>
    exact ((overflowTogether_pushHead _ s).trans (.of_unchanged rfl rfl)).trans
      ((overflowTogether_raise (by simp) _).trans (overflowTogether_route _))
  case arbClsIdle | arbClsMatch => exact (overflowTogether_raise (by simp) s).trans (overflowTogether_route _)
  case qPushHead m => exact overflowTogether_pushHead m s
  case qPushOvf => exact overflowTogether_pushOverflow s
  case decAbort | decLenBad | decComplete | decHandoff | decDrop | qCmdBad | txLast | txError | arbDispatchDone =>
    refine .of_unchanged rfl ?_
    simp [toHunt, enterWait, enterDead, Event.mask, Event.code]
  all_goals exact .of_unchanged rfl rfl

/-- Settles O45: `ev` starts the cycle cleared (R39), so bit 13 after it is what the cycle's operations set. -/
theorem overflowFlagIsSticky : Obligations.OverflowFlagIsSticky := by
  intro s t hr h
  rw [step_of_no_reset hr] at h
  obtain ⟨o, hovf, hev⟩ : OverflowTogether (beginCycle s) t :=
    runOps_induction .refl .trans (fun _ _ _ _ => exec_overflowTogether) h
  have hclear : (beginCycle s).ev.getLsbD 13 = false := BitVec.getLsbD_zero
  rw [hovf, hev, hclear, Bool.false_or]
  rfl

end Sys2Proof.Proofs.Events
end

section
/-! PROOFS. The ranges and shapes of the registers are kept by every step (R22 to R37, R61, R111): the decoder's part,
the arbiter's part, the queue's part, and the bytes sent so far (R166). -/

namespace Sys2Proof.Proofs.Ranges

open Sys2Proof Sys2Proof.Machine Sys2Proof.Proofs.Scope Sys2Proof.Proofs.Agents

theorem params_wf_iff (c : Params) :
    c.wf = true ↔ 1 ≤ c.tReply ∧ 1 ≤ c.tHandoff ∧ 3 ≤ c.txqDepth ∧ c.txqDepth ≤ 255 := by
  simp [Params.wf, and_assoc]

/-! ## The decoder's registers -/

/-- `DecoderInv` without its clause on the arbiter's state: what it says of the decoder's registers alone. -/
def FrameInv (s : State) : Prop :=
  (s.decEsc = true → s.decState = .body ∧ s.decIdx.toNat + 2 < s.decLen.toNat) ∧
  (s.decState = .body → 3 ≤ s.decLen.toNat ∧ s.decIdx.toNat < s.decLen.toNat ∧
    s.decIdx.toNat ≤ s.decBuf.length) ∧
  (s.decState = .offer → 3 ≤ s.decLen.toNat ∧ s.decIdx = s.decLen ∧ s.decLen.toNat ≤ s.decBuf.length ∧
    s.decTimer < s.cfg.tHandoff) ∧
  s.decBuf.length ≤ 255

theorem decoderInv_iff (s : State) :
    DecoderInv s ↔ (s.arbState.running = false → s.decState = .hunt) ∧ FrameInv s := Iff.rfl

theorem FrameInv.congr {s t : State} (h : SameDecoder s t) (hs : FrameInv s) : FrameInv t := by
  simpa only [FrameInv, h.cfg, h.decState, h.decLen, h.decIdx, h.decEsc, h.decBuf, h.decTimer] using hs

/-- Outside BODY and OFFER, with no escape open, only the size of the buffer is left to say. -/
theorem frameInv_of_outside {s : State} (hbody : s.decState ≠ .body) (hoffer : s.decState ≠ .offer)
    (hesc : s.decEsc = false) (hbuf : s.decBuf.length ≤ 255) : FrameInv s := by
  simp [FrameInv, hbody, hoffer, hesc, hbuf]

/-- In BODY, with no escape open. -/
theorem frameInv_of_body {s : State} (hst : s.decState = .body) (hesc : s.decEsc = false)
    (hlen : 3 ≤ s.decLen.toNat) (hidx : s.decIdx.toNat < s.decLen.toNat)
    (hheld : s.decIdx.toNat ≤ s.decBuf.length) (hbuf : s.decBuf.length ≤ 255) : FrameInv s := by
  simp [FrameInv, hst, hesc, hlen, hidx, hheld, hbuf]

/-- Closing an escape keeps everything else. -/
theorem FrameInv.setDecEsc_false {s : State} (h : FrameInv s) : FrameInv (s.setDecEsc false) := by
  obtain ⟨-, hbody, hoffer, hbuf⟩ := h
  exact ⟨fun he => Bool.noConfusion he, hbody, hoffer, hbuf⟩

/-- Storing a byte before the frame's last one moves on by one position inside the frame (R117, R119, R120). -/
theorem FrameInv.storeByte {s : State} (h : FrameInv s) (b : Byte) (hst : s.decState = .body)
    (hesc : s.decEsc = false) (hidx : s.decIdx.toNat + 1 < s.decLen.toNat) : FrameInv (storeByte b s) := by
  obtain ⟨-, hbody, -, hbuf⟩ := h
  obtain ⟨hlen, -, hheld⟩ := hbody hst
  have hbyte := s.decLen.isLt
  have hnext : (s.decIdx + 1).toNat = s.decIdx.toNat + 1 := by bv_omega
  apply frameInv_of_body <;> simp [Machine.storeByte, arrayWrite_length, hst, hesc, hlen] <;> omega

/-- Every operation the decoder's table selects keeps the decoder's registers in range. -/
theorem FrameInv.decoderEffect {s d : State} (h : FrameInv s) (hcfg : 1 ≤ s.cfg.tHandoff) (hd : DecoderEffect s d) :
    FrameInv d := by
  obtain ⟨hesc, hbody, hoffer, hbuf⟩ := id h
  have hclosed (hst : s.decState ≠ .body) : s.decEsc = false := by
    simpa using fun he => hst (hesc he).1
  cases hd with
  | disabled | abort => exact frameInv_of_outside (by simp [toHunt]) (by simp [toHunt]) rfl hbuf
  | handoff hst | drop hst | sync hst | lenBad hst =>
    exact frameInv_of_outside (by simp) (by simp) (hclosed (by simp [hst])) hbuf
  | idle => exact h
  | offerHold hst ht =>
    obtain ⟨hlen, hidx, hheld, htimer⟩ := hoffer hst
    have hnext : s.decTimer + 1 < s.cfg.tHandoff := by omega
    simp [FrameInv, hst, hlen, hidx, hheld, hbuf, hclosed, hnext]
  | lenOk b hst hb =>
    have hpos : 0 < b.toNat := by omega
    exact frameInv_of_body (by simp) (by simp) (by simpa using hb) (by simpa using hpos) (by simp) hbuf
  | unstuff b hst he =>
    have hi : s.decIdx.toNat + 1 < s.decLen.toNat := by have := (hesc he).2; omega
    exact h.setDecEsc_false.storeByte _ hst rfl hi
  | esc hst hi => exact ⟨fun _ => ⟨hst, hi⟩, hbody, hoffer, hbuf⟩
  | store b hst he hi => exact h.storeByte b hst he (by omega)
  | complete b hst he hi =>
    obtain ⟨hlen, hidx, hheld⟩ := hbody hst
    have hbyte := s.decLen.isLt
    refine ⟨fun h' => ?_, fun h' => ?_, fun _ => ?_, ?_⟩
    · simp [he] at h'
    · simp at h'
    · simp [arrayWrite_length, hlen]
      omega
    · simp [arrayWrite_length]
      omega

/-- A link that is not live leaves the decoder nothing but DEC.DISABLED (R94, R110). -/
theorem decoderOp_eq_disabled {s : State} (h : s.arbState.running = false ∨ (inputsNow s).ctrlStop = true ∨
    (s.arbState = .tx ∧ (inputsNow s).txError = true)) : decoderOp s = .decDisabled := by
  rcases decoderOp_cases s with ⟨hop, -⟩ | ⟨⟨hrun, hstop, herr⟩, -⟩
  · exact hop
  · rcases h with h | h | ⟨htx, h⟩
    · simp [hrun] at h
    · simp [hstop] at h
    · simp [herr htx] at h

theorem route_running (s : State) : (route s).arbState.running = true := by
  rw [route_eq]
  dsimp only
  split_ifs <;> rfl

/-- The arbiter stays in the running states but for a stop or a transmit failure. -/
theorem arbiterEffect_running {s a : State} (ha : ArbiterEffect s a) (hrun : s.arbState.running = true)
    (hstop : (inputsNow s).ctrlStop = false) (herr : s.arbState = .tx → (inputsNow s).txError = false) :
    a.arbState.running = true := by
  cases ha with
  | halted | idle | txStall | dispatchHold => exact hrun
  | stop h => simp [hstop] at h
  | txError hst hx => simp [herr hst] at hx
  | txByte | waitTick => exact hrun
  | classify u k => exact route_running u
  | start | skip | send | empty | txLast | waitRecv | waitTimeout | dispatchDone => rfl

/-- The decoder is in HUNT wherever the link does not run after a cycle (R110). -/
theorem step_hunt {s t : State} (hr : (inputsNow s).rst = false) (h : step s = .next t)
    (hrun : t.arbState.running = false) : t.decState = .hunt := by
  obtain ⟨a, d, ha, hat, hd, hdt⟩ := step_agents hr h
  have hoff : s.arbState.running = false ∨ (inputsNow s).ctrlStop = true ∨
      (s.arbState = .tx ∧ (inputsNow s).txError = true) := by
    by_contra hlive
    simp only [not_or, not_and, Bool.not_eq_false, Bool.not_eq_true] at hlive
    obtain ⟨hs, hstop, herr⟩ := hlive
    have := arbiterEffect_running (exec_arbiterOp_effect ha) hs hstop herr
    rw [hat.arbState, this] at hrun
    cases hrun
  rw [decoderOp_eq_disabled hoff] at hd
  cases hd
  exact hdt.decState

/-! ## The arbiter's registers -/

theorem ArbiterInv.congr {s t : State} (h : SameArbiter s t) (hs : ArbiterInv s) : ArbiterInv t := by
  simpa only [ArbiterInv, curFrame, h.cfg, h.arbState, h.arbSkip, h.arbExpect, h.cur, h.txPos, h.arbTimer, h.rxPresent,
    h.rx] using hs

/-- In SELECT nothing is asked of the arbiter's registers. -/
theorem arbiterInv_of_select {s : State} (hst : s.arbState = .select) : ArbiterInv s := by
  simp [ArbiterInv, hst]

/-- In OFF, DEAD and STOPPED nothing but where the skip flag may stand. -/
theorem arbiterInv_of_not_running {s : State} (hrun : s.arbState.running = false)
    (hsk : s.arbSkip = true → s.arbState = .stopped) : ArbiterInv s := by
  have hsk' : s.arbSkip = true → s.arbState = .select ∨ s.arbState = .dispatch ∨ s.arbState = .stopped :=
    fun h => .inr (.inr (hsk h))
  cases hst : s.arbState <;> simp_all [ArbiterInv, ArbState.running]

/-- `route()` leads to SELECT, or to DISPATCH with a received message whose checksum is good (R191). -/
theorem arbiterInv_route {s : State} (hwf : s.rxPresent = true → s.rx.wf = true) : ArbiterInv (route s) := by
  by_cases hgood : s.rxPresent = true ∧ s.rx.ok = true
  · simp [ArbiterInv, route_eq, hgood, hwf hgood.1]
  · exact arbiterInv_of_select (by simp [route_eq, hgood])

theorem skip_eq_false {s : State} (h : ArbiterInv s) (hsel : s.arbState ≠ .select) (hdisp : s.arbState ≠ .dispatch)
    (hstop : s.arbState ≠ .stopped) : s.arbSkip = false := by
  obtain ⟨-, -, -, -, -, hskip⟩ := h
  by_contra hne
  simpa [hsel, hdisp, hstop] using hskip (by simpa using hne)

theorem curFrame_length_pos (s : State) : 0 < (curFrame s).length := by
  simp [curFrame, encodeFrame_length]

/-- Inside a frame `tx_pos` does not wrap (R34, R88). -/
theorem txPos_succ_toNat {s : State} (hwf : s.cur.wf = true) (hpos : s.txPos.toNat < (curFrame s).length) :
    (s.txPos + 1).toNat = s.txPos.toNat + 1 := by
  have hlen : (curFrame s).length ≤ 510 := (frameLength s.cfg.checksumAlg s.cur hwf).2.2
  bv_omega

/-- Every operation the arbiter's table selects keeps the arbiter's registers in range. -/
theorem arbiterInv_arbiterEffect {s a : State} (h : LinkInv s) (ha : ArbiterEffect s a) : ArbiterInv a := by
  obtain ⟨hcfg, ⟨-, -, -, hoffer, -⟩, harb, hqueue⟩ := h
  obtain ⟨htx, hwait, hexp, hcls, -, -⟩ := id harb
  have hreply : 0 < s.cfg.tReply := ((params_wf_iff s.cfg).1 hcfg).1
  have hnoskip := skip_eq_false harb
  cases ha with
  | halted | idle | txStall | dispatchHold => exact harb
  | stop => exact arbiterInv_of_not_running rfl fun _ => rfl
  | start | dispatchDone => exact arbiterInv_of_select rfl
  | skip hst => simp [ArbiterInv, enterWait, hreply]
  | empty hst hsk => simp [ArbiterInv, enterWait, hsk, hreply]
  | send m rest hst hsk hq =>
    have hm : m.wf = true := hqueue m (by simp [hq])
    simp [ArbiterInv, hsk, hm, curFrame_length_pos]
  | txError hst =>
    refine arbiterInv_of_not_running rfl fun hsk => ?_
    simp [enterDead, hnoskip, hst] at hsk
  | txLast hst =>
    obtain ⟨hwf, -, he⟩ := htx hst
    simp [ArbiterInv, enterWait, hnoskip, hst, hwf, he, hreply]
  | txByte hst hr hl =>
    obtain ⟨hwf, hpos, he⟩ := htx hst
    have hnext : (s.txPos + 1).toNat < (curFrame s).length := by rw [txPos_succ_toNat hwf hpos]; omega
    have hskip : s.arbSkip = false := by simp [hnoskip, hst]
    exact ⟨fun _ => ⟨hwf, hnext, he⟩, by simp [hst], by simp [hst], by simp [hst], by simp [hst], by simp [hskip]⟩
  | waitRecv hst hd =>
    have hskip : s.arbSkip = false := by simp [hnoskip, hst]
    simpa [ArbiterInv, hskip, heldMessage_wf (hoffer hd).1] using hexp (.inl hst)
  | waitTimeout hst =>
    have hskip : s.arbSkip = false := by simp [hnoskip, hst]
    simpa [ArbiterInv, hskip] using hexp (.inl hst)
  | waitTick hst ht =>
    have hskip : s.arbSkip = false := by simp [hnoskip, hst]
    have hnext : s.arbTimer + 1 < s.cfg.tReply := by have := hwait hst; omega
    simpa [ArbiterInv, hst, hskip, hnext] using hexp (.inl hst)
  | classify u k hst hu => exact arbiterInv_route (by rw [hu.rxPresent, hu.rx]; exact hcls hst)

/-! ## The queue -/

theorem route_queue (s : State) : (route s).queue = s.queue := by rw [route_eq]

theorem queueInv_pushHead {m : TxMsg} {s : State} (h : QueueInv s) (hm : m.wf = true) : QueueInv (pushHead m s) := by
  unfold pushHead
  split_ifs
  · exact List.forall_mem_cons.2 ⟨hm, h⟩
  · exact h

theorem queueInv_pushAck {s : State} (h : QueueInv s) : QueueInv (pushAck s) := by
  unfold pushAck
  split_ifs <;> exact queueInv_pushHead h ackMsg_wf

/-- The host queues only messages that can be framed (R221 to R223). -/
theorem runOps_commandOp_queueInv {s u v : State} (hu : QueueInv u) (h : runOps (commandOp s).toList u = .next v) :
    QueueInv v := by
  rcases commandOp_cases s with ⟨hop, -⟩ | ⟨-, ⟨hop, -⟩ | ⟨hop, hlen, -⟩ | ⟨hop, hlen, -⟩⟩
  · rw [hop] at h; cases h
    exact hu
  · rw [hop] at h; cases h
    exact hu
  · rw [hop] at h; cases h
    exact List.forall_mem_append.2 ⟨hu, by simpa [commandMsg_wf] using hlen⟩
  · rw [hop] at h; cases h
    exact List.forall_mem_cons.2 ⟨by simpa [commandMsg_wf] using hlen, hu⟩

/-- The arbiter queues only an ACK and, in the two operations that send again, the message that was sent. -/
theorem exec_arbiter_queueInv {i : Instr} {u v : State} (hi : i.format = .arb ∨ i.format = .tx ∨ i.format = .ctl)
    (hcur : i = .arbClsRetry ∨ i = .arbClsUnexpected → u.cur.wf = true) (hu : QueueInv u)
    (h : exec i u = .next v) : QueueInv v := by
  cases i <;> try (rcases hi with hi | hi | hi <;> cases hi; done)
  case arbSelectSend =>
    obtain ⟨m, rest, hq, rfl⟩ := exec_send_next h
    exact fun m' hm' => hu m' (hq ▸ List.mem_cons_of_mem m hm')
  all_goals cases h
  case arbClsUnsolicited =>
    rw [QueueInv, route_queue]
    split_ifs
    · exact queueInv_pushAck hu
    · exact hu
  case arbClsRetry | arbClsUnexpected =>
    rw [QueueInv, route_queue]
    exact queueInv_pushHead hu (hcur (by simp))
  case arbClsIdle | arbClsMatch =>
    rw [QueueInv, route_queue]
    exact hu
  all_goals exact hu

/-- A message is sent again only in CLASSIFY, where a reply was expected (R188, R189). -/
theorem classify_of_resend {s : State} (h : arbiterOp s = .arbClsRetry ∨ arbiterOp s = .arbClsUnexpected) :
    s.arbState = .classify ∧ s.arbExpect ≠ 0 := by
  have hcases := arbiterOp_cases s
  rcases h with h | h <;> simp only [h, reduceCtorEq, false_and, false_or, or_false, true_and] at hcases
  all_goals exact ⟨hcases.2.1, hcases.2.2.1⟩

theorem step_queueInv {s t : State} (hr : (inputsNow s).rst = false) (hq : QueueInv s) (harb : ArbiterInv s)
    (h : step s = .next t) : QueueInv t := by
  obtain ⟨u, v, hdec, hparts⟩ := step_next_parts hr h
  obtain ⟨-, -, -, -, -, -, -, -, -, -, hqueue, -⟩ := exec_decoder_frame (decoderOp_format s) hdec
  rw [QueueInv, hqueue]
  rcases hparts with ⟨hsend, hexec, hcmd⟩ | ⟨-, hcmd, hexec⟩
  · have hu : QueueInv u := exec_arbiter_queueInv (.inl rfl) (by simp) (u := beginCycle s) hq hexec
    exact runOps_commandOp_queueInv hu hcmd
  · have hu : QueueInv u := runOps_commandOp_queueInv (u := beginCycle s) hq hcmd
    have hcur : u.cur = s.cur := (runOps_commandOp_sameAgents hcmd).1.cur
    refine exec_arbiter_queueInv (arbiterOp_format s) (fun hre => ?_) hu hexec
    obtain ⟨-, -, hexp, -⟩ := harb
    obtain ⟨hst, hne⟩ := classify_of_resend hre
    rw [hcur]
    exact (hexp (.inr hst) hne).1

/-! ## The step -/

/-- Reset leaves nothing to keep in range but the parameters. -/
theorem linkInv_reset (c : Params) (x : InputStream) (hc : c.wf = true) :
    LinkInv { State.reset with cfg := c, stim := x } := by
  refine ⟨hc, (decoderInv_iff _).2 ⟨fun _ => rfl, ?_⟩, ?_, ?_⟩
  · exact frameInv_of_outside (by simp [State.reset]) (by simp [State.reset]) rfl (Nat.zero_le _)
  · exact arbiterInv_of_not_running rfl fun hsk => Bool.noConfusion hsk
  · exact List.forall_mem_nil _

/-- Settles O55: each agent's operation keeps its own registers in range, and the queue takes only messages that can be
framed. -/
theorem stepKeepsLinkInv : Obligations.StepKeepsLinkInv := by
  intro s t h hstep
  cases hr : (inputsNow s).rst with
  | true =>
    rw [step_of_reset hr] at hstep
    cases hstep
    exact linkInv_reset s.cfg _ h.1
  | false =>
    obtain ⟨a, d, ha, hat, hd, hdt⟩ := step_effects hr hstep
    obtain ⟨hcfg, hdec, harb, hqueue⟩ := id h
    have hhandoff : 1 ≤ s.cfg.tHandoff := ((params_wf_iff s.cfg).1 hcfg).2.1
    have hframe : FrameInv t := (FrameInv.decoderEffect ((decoderInv_iff s).1 hdec).2 hhandoff hd).congr hdt
    refine ⟨?_, (decoderInv_iff t).2 ⟨step_hunt hr hstep, hframe⟩, ?_, step_queueInv hr hqueue harb hstep⟩
    · rw [(parametersAreFixed s t hstep).1]
      exact hcfg
    · exact ArbiterInv.congr hat (arbiterInv_arbiterEffect h ha)

/-! ## The bytes sent so far (R34, R166) -/

theorem sentAfter_of_not_tx {sent : List Byte} {s : State} (h : s.arbState ≠ .tx) : sentAfter sent s = [] := if_neg h

/-- A cycle in which the transport takes no byte adds none. -/
theorem sentAfter_of_stall {sent : List Byte} {s : State} (htx : s.arbState = .tx)
    (hready : (inputsNow s).txReady = false) : sentAfter sent s = sent := by
  simp [sentAfter, txTransfer, htx, hready]

/-- A cycle in which the transport takes a byte adds the frame's next one. -/
theorem sentAfter_of_ready {s : State} (hr : (inputsNow s).rst = false) (htx : s.arbState = .tx)
    (hready : (inputsNow s).txReady = true) (hpos : s.txPos.toNat < (curFrame s).length) :
    sentAfter ((curFrame s).take s.txPos.toNat) s = (curFrame s).take (s.txPos.toNat + 1) := by
  have hbyte : txTransfer s = some (curFrame s)[s.txPos.toNat] := by
    simp [txTransfer, hr, txValid, txData, htx, hready, arrayAt_of_lt _ hpos]
  rw [sentAfter, if_pos htx, hbyte, List.take_add_one, List.getElem?_eq_getElem hpos]

/-- What was sent against the arbiter's registers after its operation: in TX the frame up to the new position, and the
whole frame where TX is left for WAIT. -/
theorem sentAfter_arbiterEffect {sent : List Byte} {s a : State} (hr : (inputsNow s).rst = false)
    (h : SendInv sent s) (ha : ArbiterEffect s a) :
    (a.arbState = .tx → sentAfter sent s = (curFrame a).take a.txPos.toNat) ∧
    (s.arbState = .tx → a.arbState = .wait → sentAfter sent s = curFrame s) := by
  obtain ⟨⟨-, -, ⟨hrange, -⟩, -⟩, hsent⟩ := h
  cases ha with
  | txByte hst hready hl =>
    obtain ⟨hwf, hpos, -⟩ := hrange hst
    refine ⟨fun _ => ?_, by simp [hst]⟩
    rw [hsent hst, sentAfter_of_ready hr hst hready hpos, State.setTxPos_txPos, txPos_succ_toNat hwf hpos]
    rfl
  | txLast hst hready hl =>
    obtain ⟨-, hpos, -⟩ := hrange hst
    refine ⟨by simp [enterWait], fun _ _ => ?_⟩
    rw [hsent hst, sentAfter_of_ready hr hst hready hpos, hl, List.take_length]
  | txStall hst hready => exact ⟨fun _ => by rw [sentAfter_of_stall hst hready, hsent hst], by simp [hst]⟩
  | send m rest hst => exact ⟨fun _ => by simp [sentAfter_of_not_tx, hst], by simp [hst]⟩
  | halted hst => rcases hst with hst | hst <;> simp [hst]
  | stop | txError => simp [enterDead]
  | start hst | idle hst | skip hst | empty hst | waitRecv hst | waitTimeout hst | waitTick hst | dispatchDone hst
  | dispatchHold hst => simp [hst, enterWait]
  | classify u k hst =>
    rw [route_eq]
    dsimp only
    split_ifs <;> simp [hst]

/-- Settles O25: the frame and the position after a step are those the arbiter's operation leaves. -/
theorem stepKeepsSentBytes : Obligations.StepKeepsSentBytes := by
  intro sent s t h hstep
  have hlink : LinkInv t := stepKeepsLinkInv s t h.1 hstep
  cases hr : (inputsNow s).rst with
  | true =>
    rw [step_of_reset hr] at hstep
    cases hstep
    exact ⟨⟨hlink, fun htx => ArbState.noConfusion htx⟩, fun _ hwait => ArbState.noConfusion hwait⟩
  | false =>
    obtain ⟨a, d, ha, hat, -, -⟩ := step_effects hr hstep
    obtain ⟨hpos, hwhole⟩ := sentAfter_arbiterEffect hr h ha
    refine ⟨⟨hlink, ?_⟩, ?_⟩
    · rw [curFrame, hat.cfg, hat.cur, hat.txPos, hat.arbState]
      exact hpos
    · rw [hat.arbState]
      exact hwhole

/-! ## The reset state -/

theorem params_default_wf : Params.default.wf = true := by
  simp [params_wf_iff, Params.default, clkHz]
  omega

/-- Settles O56. -/
theorem linkInvAtReset : Obligations.LinkInvAtReset := by
  have hlink : LinkInv State.reset := linkInv_reset Params.default State.reset.stim params_default_wf
  exact ⟨hlink, hlink, fun htx => ArbState.noConfusion htx⟩

end Sys2Proof.Proofs.Ranges
end

section
/-! PROOFS. No step reads an unwritten register (R44). Two states that match on everything written select the same
operations, every operation reads written registers alone, and so the states after the step match again. -/

namespace Sys2Proof.Proofs.Unwritten

open Sys2Proof Sys2Proof.Machine Sys2Proof.Proofs.Scope Sys2Proof.Proofs.Agents

/-! ## Matching states -/

/-- `Agree`, with its parts named. -/
structure Matches (s t : State) : Prop where
  cfg : s.cfg = t.cfg
  stim : s.stim = t.stim
  arbState : s.arbState = t.arbState
  decState : s.decState = t.decState
  decEsc : s.decEsc = t.decEsc
  decBuf : s.decBuf = t.decBuf
  arbSkip : s.arbSkip = t.arbSkip
  arbExpect : s.arbExpect = t.arbExpect
  rxPresent : s.rxPresent = t.rxPresent
  queue : s.queue = t.queue
  txqOvf : s.txqOvf = t.txqOvf
  ev : s.ev = t.ev
  written : s.written = t.written
  ret : s.ret = t.ret
  decLen : s.written.decLen = true → s.decLen = t.decLen
  decIdx : s.written.decIdx = true → s.decIdx = t.decIdx
  decOk : s.written.decOk = true → s.decOk = t.decOk
  decTimer : s.written.decTimer = true → s.decTimer = t.decTimer
  cur : s.written.cur = true → s.cur = t.cur
  txPos : s.written.txPos = true → s.txPos = t.txPos
  arbTimer : s.written.arbTimer = true → s.arbTimer = t.arbTimer
  rx : s.written.rx = true → s.rx = t.rx

theorem agree_iff (s t : State) : Agree s t ↔ Matches s t := by
  constructor
  · rintro ⟨_, _, _, _, _, _, _, _, _, _, _, _, _, _, _, _, _, _, _, _, _, _⟩
    constructor <;> assumption
  · rintro ⟨_, _, _, _, _, _, _, _, _, _, _, _, _, _, _, _, _, _, _, _, _, _⟩
    refine ⟨?_, ?_, ?_, ?_, ?_, ?_, ?_, ?_, ?_, ?_, ?_, ?_, ?_, ?_, ?_, ?_, ?_, ?_, ?_, ?_, ?_, ?_⟩ <;> assumption

theorem Matches.refl (s : State) : Matches s s := by constructor <;> simp

section writes
variable {s t : State} (h : Matches s t)
include h

/-! The same value written to the same register of matching states leaves matching states. -/

theorem Matches.setDecState (v : DecState) : Matches (s.setDecState v) (t.setDecState v) :=
  { h with decState := rfl }

theorem Matches.setDecLen (v : Byte) : Matches (s.setDecLen v) (t.setDecLen v) :=
  { h with decLen := fun _ => rfl, written := by simp [State.setDecLen, h.written] }

theorem Matches.setDecIdx (v : Byte) : Matches (s.setDecIdx v) (t.setDecIdx v) :=
  { h with decIdx := fun _ => rfl, written := by simp [State.setDecIdx, h.written] }

theorem Matches.setDecEsc (v : Bool) : Matches (s.setDecEsc v) (t.setDecEsc v) :=
  { h with decEsc := rfl }

theorem Matches.setDecBuf (i : Nat) (b : Byte) : Matches (s.setDecBuf i b) (t.setDecBuf i b) :=
  { h with decBuf := by simp [h.decBuf] }

theorem Matches.setDecOk (v : Bool) : Matches (s.setDecOk v) (t.setDecOk v) :=
  { h with decOk := fun _ => rfl, written := by simp [State.setDecOk, h.written] }

theorem Matches.setDecTimer (v : Nat) : Matches (s.setDecTimer v) (t.setDecTimer v) :=
  { h with decTimer := fun _ => rfl, written := by simp [State.setDecTimer, h.written] }

theorem Matches.setArbState (v : ArbState) : Matches (s.setArbState v) (t.setArbState v) :=
  { h with arbState := rfl }

theorem Matches.setArbSkip (v : Bool) : Matches (s.setArbSkip v) (t.setArbSkip v) :=
  { h with arbSkip := rfl }

theorem Matches.setArbExpect (v : TypeSet) : Matches (s.setArbExpect v) (t.setArbExpect v) :=
  { h with arbExpect := rfl }

theorem Matches.setCur (m : TxMsg) : Matches (s.setCur m) (t.setCur m) :=
  { h with cur := fun _ => rfl, written := by simp [State.setCur, h.written] }

theorem Matches.setTxPos (v : BitVec 9) : Matches (s.setTxPos v) (t.setTxPos v) :=
  { h with txPos := fun _ => rfl, written := by simp [State.setTxPos, h.written] }

theorem Matches.setArbTimer (v : Nat) : Matches (s.setArbTimer v) (t.setArbTimer v) :=
  { h with arbTimer := fun _ => rfl, written := by simp [State.setArbTimer, h.written] }

theorem Matches.setRxPresent (v : Bool) : Matches (s.setRxPresent v) (t.setRxPresent v) :=
  { h with rxPresent := rfl }

theorem Matches.setRx (m : RxMsg) : Matches (s.setRx m) (t.setRx m) :=
  { h with rx := fun _ => rfl, written := by simp [State.setRx, h.written] }

theorem Matches.setQueue (q : List TxMsg) : Matches (s.setQueue q) (t.setQueue q) :=
  { h with queue := rfl }

theorem Matches.setTxqOvf (v : Bool) : Matches (s.setTxqOvf v) (t.setTxqOvf v) :=
  { h with txqOvf := rfl }

theorem Matches.setRet (v : Returned) : Matches (s.setRet v) (t.setRet v) :=
  { h with ret := rfl }

theorem Matches.raise (e : Event) : Matches (s.raise e) (t.raise e) :=
  { h with ev := by simp [h.ev] }

theorem Matches.beginCycle : Matches (beginCycle s) (beginCycle t) :=
  { h with ev := rfl, stim := congrArg InputStream.next h.stim }

theorem Matches.inputsNow : inputsNow s = inputsNow t := congrArg InputStream.now h.stim

/-! The shared operations, with what each reads. -/

theorem Matches.toHunt : Matches (toHunt s) (toHunt t) := (h.setDecState _).setDecEsc _

theorem Matches.storeByte (hidx : s.written.decIdx = true) (b : Byte) : Matches (storeByte b s) (storeByte b t) := by
  unfold Machine.storeByte
  rw [h.decIdx hidx]
  exact (h.setDecBuf _ _).setDecIdx _

theorem Matches.heldMessage (hlen : s.written.decLen = true) (hok : s.written.decOk = true) :
    heldMessage s = heldMessage t := by
  simp [Machine.heldMessage, h.decLen hlen, h.decBuf, h.decOk hok]

theorem Matches.completeVerdict (hlen : s.written.decLen = true) (b : Byte) :
    completeVerdict b s = completeVerdict b t := by
  simp [Machine.completeVerdict, h.decLen hlen, h.decBuf, h.cfg]

theorem Matches.enterWait : Matches (enterWait s) (enterWait t) := (h.setArbTimer _).setArbState _

theorem Matches.pushOverflow : Matches (pushOverflow s) (pushOverflow t) := (h.setTxqOvf _).raise _

theorem Matches.hasRoom : hasRoom s = hasRoom t := by simp [Machine.hasRoom, h.queue, h.cfg]

theorem Matches.pushHead (m : TxMsg) : Matches (pushHead m s) (pushHead m t) := by
  unfold Machine.pushHead
  rw [h.hasRoom, h.queue]
  split_ifs
  · exact h.setQueue _
  · exact h.pushOverflow

theorem Matches.pushAck : Matches (pushAck s) (pushAck t) := by
  unfold Machine.pushAck
  rw [h.hasRoom]
  split_ifs
  · exact (h.pushHead _).raise _
  · exact h.pushHead _

/-- `route()` reads the received message only where there is one. -/
theorem Matches.route (hrx : s.rxPresent = true → s.written.rx = true) : Matches (route s) (route t) := by
  unfold Machine.route
  cases hp : s.rxPresent with
  | false =>
    simp only [← h.rxPresent, hp, Bool.false_eq_true, false_and, if_false]
    exact h.setArbState _
  | true =>
    rw [← h.rxPresent, hp, h.rx (hrx hp)]
    split_ifs
    · exact h.setArbState _
    · exact (h.raise _).setArbState _
    · exact h.setArbState _

end writes

/-! ## What an operation reads -/

/-- The registers of R44 that an operation reads, apart from `route()`'s read of a received message, are written. -/
def ReadsWritten (w : Written) : Instr → Prop
  | .decOfferHold => w.decTimer = true
  | .decUnstuff _ | .decData _ | .decTrailer _ => w.decIdx = true
  | .decComplete _ => w.decLen = true
  | .txByte => w.txPos = true
  | .arbWaitRecv => w.decLen = true ∧ w.decOk = true
  | .arbWaitTick => w.arbTimer = true
  | .arbClsUnsolicited => w.rx = true
  | .arbClsRetry | .arbClsUnexpected => w.cur = true
  | .decDisabled | .decHandoff | .decDrop | .decAbort | .decIdle | .decSync | .decHuntSkip _ | .decLenOk _
  | .decLenBad _ | .decEsc | .csumCompute _ | .csumCheck _ _ _ | .csumGen _ | .encFrame _ | .encStuff _ | .ctlHalted
  | .ctlStop | .ctlStart | .ctlIdle | .arbSelectSkip | .arbSelectSend | .arbSelectEmpty | .txError | .txLast
  | .txStall | .arbWaitTimeout | .arbClsIdle | .arbClsMatch | .arbDispatchDone | .arbDispatchHold | .qCmdBad _ _ _ _
  | .qSend _ _ _ | .qSendPriority _ _ _ | .qPop | .qPushHead _ | .qPushOvf _ => True

/-- A received message is present only where the register that holds it is written. -/
def PresentIsWritten (s : State) : Prop := s.rxPresent = true → s.written.rx = true

theorem PresentIsWritten.of_same {s t : State} (h : PresentIsWritten s) (hst : SameArbiter s t) :
    PresentIsWritten t := by
  simpa only [PresentIsWritten, hst.rxPresent, hst.rxWritten] using h

/-- An operation that reads written registers alone takes matching states to matching states. -/
theorem exec_matches {i : Instr} {s s' t : State} (hread : ReadsWritten s.written i) (hrx : PresentIsWritten s)
    (h : Matches s s') (he : exec i s = .next t) : ∃ t', exec i s' = .next t' ∧ Matches t t' := by
  cases i
  case arbSelectSend =>
    obtain ⟨m, rest, hq, rfl⟩ := exec_send_next he
    exact ⟨_, exec_send (h.queue ▸ hq), ((((h.setQueue _).setCur _).setArbExpect _).setTxPos _).setArbState _⟩
  all_goals
    cases he
    refine ⟨_, rfl, ?_⟩
  case decDisabled => exact h.toHunt
  case decHandoff | decDrop | decLenBad => exact (h.setDecState _).raise _
  case decOfferHold => rw [h.decTimer hread]; exact h.setDecTimer _
  case decAbort => exact h.toHunt.raise _
  case decSync => exact h.setDecState _
  case decLenOk => exact (((h.setDecLen _).setDecIdx _).setDecEsc _).setDecState _
  case decUnstuff => exact (h.storeByte hread _).setDecEsc _
  case decEsc => exact h.setDecEsc _
  case decData | decTrailer => exact h.storeByte hread _
  case decComplete =>
    rw [h.completeVerdict hread, h.decLen hread]
    exact (((((h.setDecBuf _ _).setDecIdx _).setDecOk _).setDecTimer _).setDecState _).raise _
  case csumCompute | csumCheck | csumGen | encFrame => rw [h.cfg]; exact h.setRet _
  case encStuff => exact h.setRet _
  case ctlStop | ctlStart => exact h.setArbState _
  case arbSelectSkip => exact ((h.setArbSkip _).setArbExpect _).enterWait
  case arbSelectEmpty => exact (h.setArbExpect _).enterWait
  case txError => exact (h.setArbState _).raise _
  case txLast => exact h.enterWait.raise _
  case txByte => rw [h.txPos hread]; exact h.setTxPos _
  case arbWaitRecv =>
    rw [h.heldMessage hread.1 hread.2]
    exact ((h.setRxPresent _).setRx _).setArbState _
  case arbWaitTimeout => exact (h.setRxPresent _).setArbState _
  case arbWaitTick => rw [h.arbTimer hread]; exact h.setArbTimer _
  case arbClsIdle | arbClsMatch => exact (h.raise _).route hrx
  case arbClsUnsolicited =>
    refine Matches.route ?_ (hrx.of_same (sameArbiter_ackIfOwed s))
    rw [h.cfg, h.rx hread]
    split_ifs
    · exact h.pushAck
    · exact h
  case arbClsRetry =>
    have hpush : PresentIsWritten (pushHead s'.cur s) := hrx.of_same (sameArbiter_pushHead _ s)
    rw [h.cur hread]
    exact ((h.pushHead _).raise _).route hpush
  case arbClsUnexpected =>
    have hpush : PresentIsWritten (pushHead s'.cur s) := hrx.of_same (sameArbiter_pushHead _ s)
    rw [h.cur hread]
    exact (((h.pushHead _).setArbSkip _).raise _).route hpush
  case arbDispatchDone => exact (h.raise _).setArbState _
  case qCmdBad => exact h.raise _
  case qSend | qSendPriority => rw [h.queue]; exact h.setQueue _
  case qPop => rw [h.queue]; exact (h.setQueue _).setRet _
  case qPushHead => exact h.pushHead _
  case qPushOvf => exact h.pushOverflow
  all_goals exact h

/-! ## Within a cycle nothing becomes unwritten -/

/-- Every register written in `s` is written in `t`, and a message that becomes present is written. -/
structure KeepsWritten (s t : State) : Prop where
  decLen : s.written.decLen = true → t.written.decLen = true
  decIdx : s.written.decIdx = true → t.written.decIdx = true
  decOk : s.written.decOk = true → t.written.decOk = true
  decTimer : s.written.decTimer = true → t.written.decTimer = true
  cur : s.written.cur = true → t.written.cur = true
  txPos : s.written.txPos = true → t.written.txPos = true
  arbTimer : s.written.arbTimer = true → t.written.arbTimer = true
  rx : s.written.rx = true → t.written.rx = true
  present : PresentIsWritten s → PresentIsWritten t

theorem KeepsWritten.of_unchanged {s t : State} (hw : t.written = s.written) (hp : t.rxPresent = s.rxPresent) :
    KeepsWritten s t := by
  constructor <;> simp [PresentIsWritten, hw, hp]

theorem KeepsWritten.readsWritten {s t : State} (h : KeepsWritten s t) {i : Instr}
    (hi : ReadsWritten s.written i) : ReadsWritten t.written i := by
  cases i
  case decOfferHold => exact h.decTimer hi
  case decUnstuff | decData | decTrailer => exact h.decIdx hi
  case decComplete => exact h.decLen hi
  case txByte => exact h.txPos hi
  case arbWaitRecv => exact ⟨h.decLen hi.1, h.decOk hi.2⟩
  case arbWaitTick => exact h.arbTimer hi
  case arbClsUnsolicited => exact h.rx hi
  case arbClsRetry | arbClsUnexpected => exact h.cur hi
  all_goals trivial

theorem pushHead_written (m : TxMsg) (s : State) :
    (pushHead m s).written = s.written ∧ (pushHead m s).rxPresent = s.rxPresent := by
  obtain ⟨q, o, e, h⟩ := pushHead_shape m s
  simp [h]

theorem ackIfOwed_written (s : State) :
    (if ackRequired s.cfg (msgType s.rx.p) = true then pushAck s else s).written = s.written ∧
    (if ackRequired s.cfg (msgType s.rx.p) = true then pushAck s else s).rxPresent = s.rxPresent := by
  obtain ⟨q, o, e, h⟩ := ackIfOwed_shape s
  simp [h]

theorem exec_keepsWritten {i : Instr} {s t : State} (h : exec i s = .next t) : KeepsWritten s t := by
  cases i
  case arbSelectSend =>
    obtain ⟨m, rest, -, rfl⟩ := exec_send_next h
    constructor <;> simp [PresentIsWritten]
  all_goals cases h
  case arbClsUnsolicited =>
    exact .of_unchanged (by simp [route_eq, ackIfOwed_written]) (by simp [route_eq, ackIfOwed_written])
  case arbClsRetry | arbClsUnexpected | arbClsIdle | arbClsMatch =>
    exact .of_unchanged (by simp [route_eq, pushHead_written]) (by simp [route_eq, pushHead_written])
  case qPushHead m => exact .of_unchanged (pushHead_written m s).1 (pushHead_written m s).2
  all_goals constructor <;> simp [PresentIsWritten, toHunt, storeByte, enterWait, enterDead, pushOverflow]

/-- So do all the operations of a cycle that read written registers alone. -/
theorem runOps_matches {is : List Instr} {s s' t : State} (hread : ∀ i ∈ is, ReadsWritten s.written i)
    (hrx : PresentIsWritten s) (h : Matches s s') (hrun : runOps is s = .next t) :
    ∃ t', runOps is s' = .next t' ∧ Matches t t' := by
  induction is generalizing s s' with
  | nil => cases hrun; exact ⟨s', rfl, h⟩
  | cons i is ih =>
    obtain ⟨u, hi, his⟩ := runOps_append_next (is := [i]) hrun
    have hexec : exec i s = .next u := runOps_single hi
    obtain ⟨u', hexec', hu⟩ := exec_matches (hread i List.mem_cons_self) hrx h hexec
    have hkeep : KeepsWritten s u := exec_keepsWritten hexec
    obtain ⟨t', hrun', ht⟩ :=
      ih (fun j hj => hkeep.readsWritten (hread j (List.mem_cons_of_mem i hj))) (hkeep.present hrx) hu his
    exact ⟨t', (runOps_cons_next hexec').trans hrun', ht⟩

/-! ## Which operation is selected (R94) -/

/-- The decoder's table reads the comparison with T_HANDOFF in OFFER only, and the position in the frame in BODY
only. -/
theorem selectDecoder_congr {k : DecoderKey} {x : Bool} {l i : Byte} (hx : k.decState = .offer → x = k.handoffLast)
    (hl : k.decState = .body → l = k.decLen) (hi : k.decState = .body → i = k.decIdx) :
    selectDecoder { k with handoffLast := x, decLen := l, decIdx := i } = selectDecoder k := by
  cases hk : k.decState with
  | hunt | len => simp [selectDecoder, DecoderKey.kill, DecoderKey.rxhs, hk]
  | body => simp [selectDecoder, DecoderKey.kill, DecoderKey.rxhs, hk, hl hk, hi hk]
  | offer => simp [selectDecoder, DecoderKey.kill, hk, hx hk]

/-- The arbiter's table reads the comparison with the frame's last position in TX only, that with T_REPLY in WAIT only,
and the type of the received message only where there is one. -/
theorem selectArbiter_congr {k : ArbiterKey} {x y z : Bool} (hx : k.arbState = .tx → x = k.txAtLast)
    (hy : k.arbState = .wait → y = k.replyLast) (hz : k.rxPresent = true → z = k.expectHit) :
    selectArbiter { k with txAtLast := x, replyLast := y, expectHit := z } = selectArbiter k := by
  cases hk : k.arbState with
  | off | select | dispatch | dead | stopped => simp [selectArbiter, hk]
  | tx => simp [selectArbiter, hk, hx hk]
  | wait => simp [selectArbiter, hk, hy hk]
  | classify =>
    cases hp : k.rxPresent with
    | false => simp [selectArbiter, hk, hp]
    | true => simp [selectArbiter, hk, hp, hz hp]

theorem decoderOp_matches {s s' : State} (hw : WrittenInv s) (h : Matches s s') : decoderOp s' = decoderOp s := by
  obtain ⟨hbody, hoffer, -⟩ := hw
  have hkey : decoderKeyOf s' = { decoderKeyOf s with
      handoffLast := (decoderKeyOf s').handoffLast, decLen := s'.decLen, decIdx := s'.decIdx } := by
    simp [decoderKeyOf, h.inputsNow, h.arbState, h.decState, h.decEsc]
  rw [decoderOp, hkey, decoderOp]
  refine selectDecoder_congr (fun hst => ?_) (fun hst => (h.decLen (hbody hst).1).symm)
    (fun hst => (h.decIdx (hbody hst).2).symm)
  have htimer : s.decTimer = s'.decTimer := h.decTimer (hoffer hst).2.2.2
  simp only [decoderKeyOf, htimer, h.cfg]

theorem arbiterOp_matches {s s' : State} (hw : WrittenInv s) (h : Matches s s') : arbiterOp s' = arbiterOp s := by
  obtain ⟨-, -, htx, hwait, -, hrx, -⟩ := hw
  have hkey : arbiterKeyOf s' = { arbiterKeyOf s with
      txAtLast := (arbiterKeyOf s').txAtLast, replyLast := (arbiterKeyOf s').replyLast,
      expectHit := (arbiterKeyOf s').expectHit } := by
    simp [arbiterKeyOf, h.inputsNow, h.arbState, h.decState, h.arbSkip, h.arbExpect, h.rxPresent, h.queue]
  rw [arbiterOp, hkey, arbiterOp]
  refine selectArbiter_congr (fun hst => ?_) (fun hst => ?_) (fun hp => ?_)
  · have hframe : curFrame s = curFrame s' := by simp [curFrame, h.cfg, h.cur (htx hst).1]
    have hpos : s.txPos = s'.txPos := h.txPos (htx hst).2
    simp only [arbiterKeyOf, hframe, hpos]
  · have htimer : s.arbTimer = s'.arbTimer := h.arbTimer (hwait hst)
    simp only [arbiterKeyOf, htimer, h.cfg]
  · simp only [arbiterKeyOf, h.rx (hrx hp), h.arbExpect]

theorem commandOp_matches {s s' : State} (h : Matches s s') : commandOp s' = commandOp s := by
  simp [commandOp, commandKeyOf, cmdReady, h.inputsNow, h.arbState, h.queue, h.cfg]

theorem cycleOps_matches {s s' : State} (hw : WrittenInv s) (h : Matches s s') : cycleOps s' = cycleOps s := by
  rw [cycleOps, cycleOps, decoderOp_matches hw h, arbiterOp_matches hw h, commandOp_matches h]

/-- What the arbiter's operation reads is written. -/
theorem readsWritten_arbiterOp {s : State} (hw : WrittenInv s) : ReadsWritten s.written (arbiterOp s) := by
  obtain ⟨-, hoffer, htx, hwait, hexp, hrx, -⟩ := hw
  have hcases := arbiterOp_cases s
  cases hop : arbiterOp s
  case txByte =>
    simp only [hop, reduceCtorEq, false_and, false_or, or_false, true_and] at hcases
    exact (htx hcases.2.1).2
  case arbWaitRecv =>
    simp only [hop, reduceCtorEq, false_and, false_or, or_false, true_and] at hcases
    obtain ⟨hlen, -, hok, -⟩ := hoffer hcases.2.2
    exact ⟨hlen, hok⟩
  case arbWaitTick =>
    simp only [hop, reduceCtorEq, false_and, false_or, or_false, true_and] at hcases
    exact hwait hcases.2.1
  case arbClsUnsolicited =>
    simp only [hop, reduceCtorEq, false_and, false_or, or_false, true_and] at hcases
    exact hrx hcases.2.2.2
  case arbClsRetry | arbClsUnexpected =>
    simp only [hop, reduceCtorEq, false_and, false_or, or_false, true_and] at hcases
    exact hexp hcases.2.2.1
  case decOfferHold | decUnstuff | decData | decTrailer | decComplete => simp [hop] at hcases
  all_goals trivial

/-- What the decoder's operation reads is written. -/
theorem readsWritten_decoderOp {s : State} (hw : WrittenInv s) : ReadsWritten s.written (decoderOp s) := by
  obtain ⟨hbody, hoffer, -⟩ := hw
  have hcases := decoderOp_cases s
  cases hop : decoderOp s
  case decOfferHold =>
    simp only [hop, reduceCtorEq, false_and, and_false, false_or, or_false, true_and] at hcases
    exact (hoffer hcases.2.1).2.2.2
  case decUnstuff | decData | decTrailer =>
    simp only [hop, reduceCtorEq, false_and, false_or, or_false] at hcases
    exact (hbody hcases.2.2.2.1).2
  case decComplete =>
    simp only [hop, reduceCtorEq, false_and, false_or] at hcases
    exact (hbody hcases.2.2.2.1).1
  case txByte | arbWaitRecv | arbWaitTick | arbClsUnsolicited | arbClsRetry | arbClsUnexpected => simp [hop] at hcases
  all_goals trivial

/-- The host's operations read no register of R44. -/
theorem readsWritten_command {w : Written} {c : Instr} (hc : c.format = .cmd) : ReadsWritten w c := by
  cases c <;> trivial

theorem readsWritten_cycleOps {s : State} (hw : WrittenInv s) {i : Instr} (hi : i ∈ cycleOps s) :
    ReadsWritten s.written i := by
  rcases mem_cycleOps_iff.1 hi with rfl | hc | rfl
  · exact readsWritten_arbiterOp hw
  · exact readsWritten_command (commandOp_format hc)
  · exact readsWritten_decoderOp hw

/-! ## Registers are written before the states in which they are read -/

/-- The decoder's part of `WrittenInv`. -/
def DecoderWritten (s : State) : Prop :=
  (s.decState = .body → s.written.decLen = true ∧ s.written.decIdx = true) ∧
  (s.decState = .offer → s.written.decLen = true ∧ s.written.decIdx = true ∧ s.written.decOk = true ∧
    s.written.decTimer = true)

/-- The arbiter's part of `WrittenInv`. -/
def ArbiterWritten (s : State) : Prop :=
  (s.arbState = .tx → s.written.cur = true ∧ s.written.txPos = true) ∧
  (s.arbState = .wait → s.written.arbTimer = true) ∧
  (s.arbExpect ≠ 0 → s.written.cur = true) ∧
  (s.rxPresent = true → s.written.rx = true) ∧
  (s.arbState = .dispatch → s.rxPresent = true)

theorem writtenInv_iff (s : State) : WrittenInv s ↔ DecoderWritten s ∧ ArbiterWritten s := and_assoc.symm

theorem DecoderWritten.congr {s t : State} (h : SameDecoder s t) (hs : DecoderWritten s) : DecoderWritten t := by
  simpa only [DecoderWritten, h.decState, h.decLenWritten, h.decIdxWritten, h.decOkWritten, h.decTimerWritten] using hs

theorem ArbiterWritten.congr {s t : State} (h : SameArbiter s t) (hs : ArbiterWritten s) : ArbiterWritten t := by
  simpa only [ArbiterWritten, h.arbState, h.arbExpect, h.rxPresent, h.curWritten, h.txPosWritten, h.arbTimerWritten,
    h.rxWritten] using hs

theorem DecoderWritten.decoderEffect {s d : State} (h : DecoderWritten s) (hd : DecoderEffect s d) :
    DecoderWritten d := by
  obtain ⟨hbody, hoffer⟩ := id h
  cases hd with
  | idle | esc => exact h
  | offerHold hst => simp [DecoderWritten, hst, hoffer]
  | unstuff b hst | store b hst => simp [DecoderWritten, storeByte, hst, hbody]
  | complete b hst => simp [DecoderWritten, hbody hst]
  | disabled | handoff | drop | abort | sync | lenOk | lenBad => simp [DecoderWritten, toHunt]

theorem ArbiterWritten.arbiterEffect {s a : State} (h : ArbiterWritten s) (ha : ArbiterEffect s a) :
    ArbiterWritten a := by
  obtain ⟨htx, hwait, hexp, hrx, hdisp⟩ := id h
  cases ha with
  | halted | idle | txStall | dispatchHold => exact h
  | stop | start | dispatchDone => exact ⟨by simp, by simp, hexp, hrx, by simp⟩
  | skip | empty => exact ⟨by simp [enterWait], by simp [enterWait], by simp [enterWait], hrx, by simp [enterWait]⟩
  | send => exact ⟨by simp, by simp, by simp, hrx, by simp⟩
  | txError => exact ⟨by simp [enterDead], by simp [enterDead], hexp, hrx, by simp [enterDead]⟩
  | txLast => exact ⟨by simp [enterWait], by simp [enterWait], hexp, hrx, by simp [enterWait]⟩
  | txByte hst => exact ⟨fun _ => ⟨(htx hst).1, rfl⟩, by simp [hst], hexp, hrx, by simp [hst]⟩
  | waitRecv => exact ⟨by simp, by simp, hexp, by simp, by simp⟩
  | waitTimeout => exact ⟨by simp, by simp, hexp, by simp, by simp⟩
  | waitTick hst => exact ⟨by simp [hst], by simp, hexp, hrx, by simp [hst]⟩
  | classify u k hst hu =>
    have hcur : u.arbExpect ≠ 0 → u.written.cur = true := by rw [hu.arbExpect, hu.curWritten]; exact hexp
    have hpresent : u.rxPresent = true → u.written.rx = true := by rw [hu.rxPresent, hu.rxWritten]; exact hrx
    rw [route_eq]
    by_cases hgood : u.rxPresent = true ∧ u.rx.ok = true
    · exact ⟨by simp [hgood], by simp [hgood], hcur, hpresent, fun _ => hgood.1⟩
    · exact ⟨by simp [hgood], by simp [hgood], hcur, hpresent, by simp [hgood]⟩

theorem writtenInv_reset (c : Params) (x : InputStream) : WrittenInv { State.reset with cfg := c, stim := x } := by
  simp [WrittenInv, State.reset]

/-- Settles O60. -/
theorem writtenInvAtReset : Obligations.WrittenInvAtReset := writtenInv_reset Params.default State.reset.stim

theorem step_writtenInv {s t : State} (hw : WrittenInv s) (h : step s = .next t) : WrittenInv t := by
  cases hr : (inputsNow s).rst with
  | true =>
    rw [step_of_reset hr] at h
    cases h
    exact writtenInv_reset s.cfg _
  | false =>
    obtain ⟨a, d, ha, hat, hd, hdt⟩ := step_effects hr h
    obtain ⟨hdec, harb⟩ := (writtenInv_iff s).1 hw
    exact (writtenInv_iff t).2 ⟨(hdec.decoderEffect hd).congr hdt, (harb.arbiterEffect ha).congr hat⟩

/-! ## The step and what is seen of a state -/

theorem runOps_total {is : List Instr} (his : ∀ i ∈ is, i ≠ .arbSelectSend) (s : State) :
    ∃ t, runOps is s = .next t := by
  induction is generalizing s with
  | nil => exact ⟨s, rfl⟩
  | cons i is ih =>
    obtain ⟨u, hu⟩ := exec_next (his i List.mem_cons_self) s
    obtain ⟨t, ht⟩ := ih (fun j hj => his j (List.mem_cons_of_mem i hj)) u
    exact ⟨t, (runOps_cons_next hu).trans ht⟩

theorem commandOp_ne_send {s : State} {c : Instr} (h : commandOp s = some c) : c ≠ .arbSelectSend := by
  rintro rfl
  cases commandOp_format h

/-- Every step answers a next state: a dequeue is selected only where the queue holds a message. -/
theorem exists_step_next (s : State) : ∃ t, step s = .next t := by
  have hcommand : ∀ i ∈ (commandOp s).toList, i ≠ .arbSelectSend := by
    simpa using fun c hc => commandOp_ne_send hc
  cases hr : (inputsNow s).rst with
  | true => exact ⟨_, step_of_reset hr⟩
  | false =>
    rw [step_of_no_reset hr, cycleOps]
    split_ifs with hsend
    · obtain ⟨u, hu⟩ := exec_total (i := arbiterOp s) (s := beginCycle s) queue_ne_nil_of_send
      rw [List.cons_append, runOps_cons_next hu]
      exact runOps_total (List.forall_mem_append.2 ⟨hcommand, by simp [decoderOp_ne_send]⟩) u
    · exact runOps_total (List.forall_mem_append.2 ⟨hcommand, by simp [hsend, decoderOp_ne_send]⟩) _

/-- Matching states step alike: they read the same inputs, select the same operations, and these read written
registers alone. -/
theorem step_matches {s s' t : State} (hw : WrittenInv s) (h : Matches s s') (hstep : step s = .next t) :
    ∃ t', step s' = .next t' ∧ Matches t t' := by
  cases hr : (inputsNow s).rst with
  | true =>
    rw [step_of_reset hr] at hstep
    cases hstep
    refine ⟨_, step_of_reset (h.inputsNow ▸ hr), ?_⟩
    rw [resetCore, resetCore, h.cfg, h.stim]
    exact .refl _
  | false =>
    rw [step_of_no_reset hr] at hstep
    rw [step_of_no_reset (h.inputsNow ▸ hr), cycleOps_matches hw h]
    obtain ⟨-, -, -, -, -, hpresent, -⟩ := id hw
    exact runOps_matches (s := beginCycle s) (fun i hi => readsWritten_cycleOps hw hi) hpresent h.beginCycle hstep

theorem txData_matches {s s' : State} (hw : WrittenInv s) (h : Matches s s') : txData s = txData s' := by
  obtain ⟨-, -, htx, -⟩ := hw
  unfold txData
  rw [← h.arbState]
  split_ifs with hst
  · rw [curFrame, curFrame, h.cfg, h.cur (htx hst).1, h.txPos (htx hst).2]
  · rfl

/-- Matching states show the same outputs; the received message shows only in DISPATCH, where it is written. -/
theorem visible_matches {s s' : State} (hw : WrittenInv s) (h : Matches s s') : visible s = visible s' := by
  obtain ⟨-, -, -, -, -, hpresent, hdispatch⟩ := id hw
  have hvalid : msgValid s = msgValid s' := by simp [msgValid, h.arbState]
  have hstatus : statusWord s = statusWord s' := by
    simp [statusWord, h.queue, h.arbExpect, h.txqOvf, h.arbSkip, h.arbState, h.decState]
  have hports : rxReady s = rxReady s' ∧ txValid s = txValid s' ∧ cmdReady s = cmdReady s' := by
    simp [rxReady, txValid, cmdReady, h.arbState, h.decState, h.queue, h.cfg]
  obtain ⟨hrx, htx, hcmd⟩ := hports
  unfold visible outputs
  rw [hrx, htx, hcmd, txData_matches hw h, h.ev, hstatus, ← hvalid]
  split_ifs with hmsg
  · rw [h.rx (hpresent (hdispatch (of_decide_eq_true hmsg)))]
  · rfl

/-- Settles O59. -/
theorem unwrittenIsNeverRead : Obligations.UnwrittenIsNeverRead := by
  intro s s' hw hagree
  have h : Matches s s' := (agree_iff s s').1 hagree
  obtain ⟨t, ht⟩ := exists_step_next s
  obtain ⟨t', ht', hmatch⟩ := step_matches hw h ht
  exact ⟨visible_matches hw h, t, t', ht, ht', (agree_iff t t').2 hmatch, step_writtenInv hw ht⟩

end Sys2Proof.Proofs.Unwritten
end

section
/-! PROOFS. Runs of several cycles (log 2): a run taken apart into its first cycle and the rest, the inputs that the
rest of a run meets, and what the inputs of every cycle let a run keep. -/

namespace Sys2Proof.Proofs.Runs

open Sys2Proof Sys2Proof.Machine Sys2Proof.Proofs.Scope Sys2Proof.Proofs.Agents Sys2Proof.Proofs.Unwritten

theorem runsTo_zero (s : State) : RunsTo 0 s s := rfl

theorem runsTo_succ_of_step {n : Nat} {s t u : State} (h : step s = .next t) (hrun : RunsTo n t u) :
    RunsTo (n + 1) s u := by
  have hcore : core.step s = .next t := h
  simpa only [RunsTo, Host.Core.run, hcore] using hrun

theorem runsTo_one {s t : State} (h : step s = .next t) : RunsTo 1 s t := runsTo_succ_of_step h (runsTo_zero t)

theorem runsTo_trans {m n : Nat} {s t u : State} (hst : RunsTo m s t) (htu : RunsTo n t u) : RunsTo (m + n) s u := by
  induction m generalizing s with
  | zero =>
    cases hst
    rwa [Nat.zero_add]
  | succ m ih =>
    obtain ⟨v, hv⟩ := exists_step_next s
    have hcore : core.step s = .next v := hv
    simp only [RunsTo, Host.Core.run, hcore] at hst
    rw [Nat.succ_add]
    exact runsTo_succ_of_step hv (ih hst)

/-- A cycle uses up the first of the coming inputs. -/
theorem inputAt_of_step {s t : State} (h : step s = .next t) (i : Nat) : inputAt t i = inputAt s (i + 1) := by
  rw [inputAt, (parametersAreFixed s t h).2.1]
  rfl

/-- What every cycle with inputs of a kind keeps, a run over such inputs keeps. -/
theorem exists_runsTo_of_invariant {C : Inputs → Prop} {P : State → Prop}
    (hstep : ∀ s t, P s → C (inputsNow s) → step s = .next t → P t) {n : Nat} {s : State} (hs : P s)
    (hin : ∀ i, i < n → C (inputAt s i)) : ∃ t, RunsTo n s t ∧ P t := by
  induction n generalizing s with
  | zero => exact ⟨s, runsTo_zero s, hs⟩
  | succ n ih =>
    obtain ⟨u, hu⟩ := exists_step_next s
    obtain ⟨t, hrun, ht⟩ := ih (hstep s u hs (hin 0 n.succ_pos) hu) fun i hi => by
      rw [inputAt_of_step hu]
      exact hin (i + 1) (Nat.succ_lt_succ hi)
    exact ⟨t, runsTo_succ_of_step hu hrun, ht⟩

/-- The arbiter's registers after a cycle without reset, from the operation it performs. -/
theorem step_arbiter {s t a : State} {i : Instr} (hr : (inputsNow s).rst = false) (h : step s = .next t)
    (hop : arbiterOp s = i) (hexec : exec i s = .next a) : SameArbiter a t := by
  obtain ⟨a', -, ha, hat, -⟩ := step_agents hr h
  exact of_exec (P := (SameArbiter · t)) hexec hop.symm ha hat

/-- The decoder's registers after a cycle without reset, from the operation it performs. -/
theorem step_decoder {s t d : State} {i : Instr} (hr : (inputsNow s).rst = false) (h : step s = .next t)
    (hop : decoderOp s = i) (hexec : exec i s = .next d) : SameDecoder d t := by
  obtain ⟨-, d', -, -, hd, hdt⟩ := step_agents hr h
  exact of_exec (P := (SameDecoder · t)) hexec hop.symm hd hdt

end Sys2Proof.Proofs.Runs
end

section
/-! PROOFS. The hand-off and the received-message register (R65, R124, R184). -/

namespace Sys2Proof.Proofs.Handoff

open Sys2Proof Sys2Proof.Machine Sys2Proof.Proofs.Scope Sys2Proof.Proofs.Agents Sys2Proof.Proofs.Runs

/-- When the arbiter takes a message over (R184). -/
theorem arbiterOp_eq_waitRecv_iff (s : State) :
    arbiterOp s = .arbWaitRecv ↔ (inputsNow s).ctrlStop = false ∧ s.arbState = .wait ∧ s.decState = .offer := by
  have hcases := arbiterOp_cases s
  constructor
  · intro hop
    simpa [hop] using hcases
  · rintro ⟨hstop, hst, hd⟩
    simpa [hstop, hst, hd] using hcases

/-- The decoder's half of the hand-off is selected together with the arbiter's (R124). -/
theorem decoderOp_eq_handoff {s : State} (hstop : (inputsNow s).ctrlStop = false) (hst : s.arbState = .wait)
    (hd : s.decState = .offer) : decoderOp s = .decHandoff := by
  simpa [hstop, hst, hd, ArbState.running] using decoderOp_cases s

/-- Of the arbiter's operations ARB.WAIT_RECV alone writes the received-message register. -/
theorem exec_arbiter_rx {i : Instr} {s t : State} (hi : i.format = .arb ∨ i.format = .tx ∨ i.format = .ctl)
    (hne : i ≠ .arbWaitRecv) (h : exec i s = .next t) : t.rx = s.rx := by
  cases i <;> try (rcases hi with hi | hi | hi <;> cases hi; done)
  case arbWaitRecv => exact absurd rfl hne
  case arbSelectSend =>
    obtain ⟨m, rest, -, rfl⟩ := exec_send_next h
    rfl
  all_goals cases h
  case arbClsUnsolicited => simpa [route_eq] using (sameArbiter_ackIfOwed s).rx
  case arbClsRetry | arbClsUnexpected => simpa [route_eq] using (sameArbiter_pushHead s.cur s).rx
  case arbClsIdle | arbClsMatch => simp [route_eq]
  all_goals simp [enterWait, enterDead]

/-- Settles O48: both halves of the hand-off run in the same cycle, and only the arbiter's half writes `rx`. -/
theorem handoffMovesTheMessage : Obligations.HandoffMovesTheMessage := by
  intro s t hr h
  constructor
  · intro hstop hst hd
    have harb := step_arbiter hr h ((arbiterOp_eq_waitRecv_iff s).2 ⟨hstop, hst, hd⟩) rfl
    have hdec := step_decoder hr h (decoderOp_eq_handoff hstop hst hd) rfl
    exact ⟨harb.rx, harb.rxPresent, harb.arbState, hdec.decState⟩
  · intro hno
    obtain ⟨a, -, ha, hat, -⟩ := step_agents hr h
    rw [hat.rx]
    exact exec_arbiter_rx (arbiterOp_format s) (mt (arbiterOp_eq_waitRecv_iff s).1 hno) ha

end Sys2Proof.Proofs.Handoff
end

section
/-! PROOFS. The order of the queue operations of one cycle (R66): the dequeue, the host's insertion, the internal
push. -/

namespace Sys2Proof.Proofs.QueueOrder

open Sys2Proof Sys2Proof.Machine Sys2Proof.Proofs.Scope Sys2Proof.Proofs.Agents Sys2Proof.Proofs.Ranges
  Sys2Proof.Proofs.Runs

/-- Where the host's insertion leaves the command `c` in the queue `q`: at the head or at the tail (R221, R222). -/
def entered (head : Bool) (c : TxMsg) (q : List TxMsg) : List TxMsg := if head = true then c :: q else q ++ [c]

theorem entered_length (head : Bool) (c : TxMsg) (q : List TxMsg) : (entered head c q).length = q.length + 1 := by
  cases head <;> simp [entered]

theorem cons_entered (m : TxMsg) (head : Bool) (c : TxMsg) (q : List TxMsg) :
    m :: entered head c q = if head = true then m :: c :: q else m :: (q ++ [c]) := by
  cases head <;> rfl

/-- A command transferred in a cycle is the one on the port, the port is ready, and no reset runs (R90, R91). -/
theorem cmdTransfer_eq_some {s : State} {c : TxMsg} (h : cmdTransfer s = some c) :
    ((inputsNow s).cmdValid = true ∧ cmdReady s = true) ∧
      c = commandMsg (inputsNow s).cmdLen (inputsNow s).cmdPayload (inputsNow s).cmdExpect := by
  unfold cmdTransfer at h
  split_ifs at h with hport
  exact ⟨hport.2, (Option.some.inj h).symm⟩

/-- The host's operation enters a transferred legal command in the queue as the operations before it left it. -/
theorem runOps_commandOp_queue {s u v : State} {c : TxMsg} (hc : cmdTransfer s = some c) (hwf : c.wf = true)
    (h : runOps (commandOp s).toList u = .next v) : v.queue = entered (inputsNow s).cmdHead c u.queue := by
  obtain ⟨⟨hvalid, hready⟩, rfl⟩ := cmdTransfer_eq_some hc
  rw [commandMsg_wf] at hwf
  rcases commandOp_cases s with ⟨-, hno⟩ | ⟨-, ⟨-, hlen⟩ | ⟨hop, -, hhead⟩ | ⟨hop, -, hhead⟩⟩
  · simp [hvalid, hready] at hno
  · simp [hwf] at hlen
  all_goals
    rw [hop] at h
    cases h
    rw [hhead]
    rfl

/-- The decoder's operation, the last of a cycle, leaves the queue alone. -/
theorem exec_decoderOp_queue {s u v : State} (h : exec (decoderOp s) u = .next v) : v.queue = u.queue := by
  obtain ⟨-, -, -, -, -, -, -, -, -, -, hqueue, -⟩ := exec_decoder_frame (decoderOp_format s) h
  exact hqueue

/-- A dequeue takes the head of the queue as it stood before the cycle; the command enters the rest. -/
theorem step_send {s t : State} {c m : TxMsg} {rest : List TxMsg} (hr : (inputsNow s).rst = false)
    (hop : arbiterOp s = .arbSelectSend) (hq : s.queue = m :: rest) (hc : cmdTransfer s = some c)
    (hwf : c.wf = true) (h : step s = .next t) :
    t.cur = m ∧ t.queue = entered (inputsNow s).cmdHead c rest := by
  refine ⟨(step_arbiter hr h hop (exec_send hq)).cur, ?_⟩
  obtain ⟨u, v, hdec, ⟨-, harb, hcmd⟩ | ⟨hno, -⟩⟩ := step_next_parts hr h
  · rw [exec_send (s := beginCycle s) hq] at harb
    cases harb
    rw [exec_decoderOp_queue hdec, runOps_commandOp_queue hc hwf hcmd]
    rfl
  · exact absurd hop hno

/-- An operation that pushes `m` on a queue with room lands it in front of the command of the same cycle: a queue that
was open to the host still has an entry free for the push. -/
theorem step_push {s t : State} {c m : TxMsg} {i : Instr} (hr : (inputsNow s).rst = false) (hop : arbiterOp s = i)
    (hi : i ≠ .arbSelectSend)
    (hpush : ∀ u v, SameArbiter s u → u.queue.length < u.cfg.txqDepth → exec i u = .next v → v.queue = m :: u.queue)
    (hc : cmdTransfer s = some c) (hwf : c.wf = true) (h : step s = .next t) :
    t.queue = if (inputsNow s).cmdHead = true then m :: c :: s.queue else m :: (s.queue ++ [c]) := by
  subst hop
  obtain ⟨u, v, hdec, ⟨hsend, -⟩ | ⟨-, hcmd, harb⟩⟩ := step_next_parts hr h
  · exact absurd hsend hi
  have hsame : SameArbiter s u := (beginCycle_sameAgents s).1.trans (runOps_commandOp_sameAgents hcmd).1
  have hqueue : u.queue = entered (inputsNow s).cmdHead c s.queue :=
    runOps_commandOp_queue (u := beginCycle s) hc hwf hcmd
  have hroom : u.queue.length < u.cfg.txqDepth := by
    obtain ⟨-, -, hlimit⟩ := (cmdReady_iff s).1 (cmdTransfer_eq_some hc).1.2
    rw [hqueue, entered_length, hsame.cfg]
    omega
  rw [exec_decoderOp_queue hdec, hpush u v hsame hroom harb, hqueue, cons_entered]

/-! The four operations of the statement: when they are selected, and what the last three push. -/

theorem arbiterOp_eq_send {s : State} (hstop : (inputsNow s).ctrlStop = false) (hst : s.arbState = .select)
    (hskip : s.arbSkip = false) (hq : 0 < s.queue.length) : arbiterOp s = .arbSelectSend := by
  simpa [hstop, hst, hskip, hq, hq.ne'] using arbiterOp_cases s

theorem arbiterOp_eq_retry {s : State} (hstop : (inputsNow s).ctrlStop = false) (hst : s.arbState = .classify)
    (hexp : s.arbExpect ≠ 0#256) (hrx : s.rxPresent = false) : arbiterOp s = .arbClsRetry := by
  simpa [hstop, hst, hexp, hrx] using arbiterOp_cases s

theorem arbiterOp_eq_unexpected {s : State} (hstop : (inputsNow s).ctrlStop = false) (hst : s.arbState = .classify)
    (hexp : s.arbExpect ≠ 0#256) (hrx : s.rxPresent = true)
    (hmiss : s.arbExpect.getLsbD (msgType s.rx.p).toNat = false) : arbiterOp s = .arbClsUnexpected := by
  simpa [hstop, hst, hexp, hrx, hmiss] using arbiterOp_cases s

theorem arbiterOp_eq_unsolicited {s : State} (hstop : (inputsNow s).ctrlStop = false) (hst : s.arbState = .classify)
    (hexp : s.arbExpect = 0) (hrx : s.rxPresent = true) : arbiterOp s = .arbClsUnsolicited := by
  simpa [hstop, hst, hexp, hrx] using arbiterOp_cases s

theorem exec_resend_queue {i : Instr} {u v : State} (hi : i = .arbClsRetry ∨ i = .arbClsUnexpected)
    (hroom : u.queue.length < u.cfg.txqDepth) (h : exec i u = .next v) : v.queue = u.cur :: u.queue := by
  rcases hi with rfl | rfl <;> cases h <;> rw [route_queue, pushHead_of_room hroom] <;> rfl

theorem exec_unsolicited_queue {u v : State} (hack : ackRequired u.cfg (msgType u.rx.p) = true)
    (hroom : u.queue.length < u.cfg.txqDepth) (h : exec .arbClsUnsolicited u = .next v) :
    v.queue = ackMsg :: u.queue := by
  cases h
  rw [route_queue, if_pos hack, pushAck_of_room hroom]

/-- Settles O37: the dequeue runs before the host's insertion, and each of the three pushes after it. -/
theorem sameCycleQueueOrder : Obligations.SameCycleQueueOrder := by
  refine ⟨?_, ?_, ?_, ?_⟩
  · rintro s t c m rest ⟨hr, hstop⟩ hst hskip hq hc hwf h
    exact step_send hr (arbiterOp_eq_send hstop hst hskip (by simp [hq])) hq hc hwf h
  · rintro s t c ⟨hr, hstop⟩ hst hexp hrx hc hwf h
    refine step_push hr (arbiterOp_eq_retry hstop hst hexp hrx) (by simp) (fun u v hsame hroom hv => ?_) hc hwf h
    rw [exec_resend_queue (.inl rfl) hroom hv, hsame.cur]
  · rintro s t c ⟨hr, hstop⟩ hst hexp hrx hmiss hc hwf h
    refine step_push hr (arbiterOp_eq_unexpected hstop hst hexp hrx hmiss) (by simp) (fun u v hsame hroom hv => ?_)
      hc hwf h
    rw [exec_resend_queue (.inr rfl) hroom hv, hsame.cur]
  · rintro s t c ⟨hr, hstop⟩ hst hexp hrx hack hc hwf h
    refine step_push hr (arbiterOp_eq_unsolicited hstop hst hexp hrx) (by simp) (fun u v hsame hroom hv => ?_)
      hc hwf h
    refine exec_unsolicited_queue ?_ hroom hv
    rw [hsame.cfg, hsame.rx]
    exact hack

end Sys2Proof.Proofs.QueueOrder
end

section
/-! PROOFS. The waits of the link and their bounds (R69, R268, R297). -/

namespace Sys2Proof.Proofs.Waits

open Sys2Proof Sys2Proof.Machine Sys2Proof.Proofs.Scope Sys2Proof.Proofs.Agents Sys2Proof.Proofs.Ranges
  Sys2Proof.Proofs.Unwritten Sys2Proof.Proofs.Runs

/-! ## WAIT -/

/-- Whatever the inputs, a cycle that starts in WAIT leaves it or counts up short of T_REPLY. -/
theorem step_wait {s t : State} (hst : s.arbState = .wait) (htimer : s.arbTimer < s.cfg.tReply)
    (h : step s = .next t) (hstay : t.arbState = .wait) :
    t.arbTimer = s.arbTimer + 1 ∧ t.arbTimer < t.cfg.tReply := by
  cases hr : (inputsNow s).rst with
  | true =>
    rw [step_of_reset hr] at h
    cases h
    cases hstay
  | false =>
    obtain ⟨a, -, ha, hat, -⟩ := step_effects hr h
    rw [hat.arbState] at hstay
    rw [hat.arbTimer, hat.cfg]
    cases ha with
    | waitTick _ hlast =>
      simp only [State.setArbTimer_arbTimer, State.setArbTimer_cfg, true_and]
      omega
    | stop | waitRecv | waitTimeout => simp at hstay
    | halted hst' | start hst' | idle hst' | skip hst' | send _ _ hst' | empty hst' | txError hst' | txLast hst'
    | txByte hst' | txStall hst' | classify _ _ hst' | dispatchDone hst' | dispatchHold hst' => simp [hst] at hst'

/-- The cycles left on the timer are enough to leave WAIT. -/
theorem exists_runsTo_ne_wait (s : State) (hst : s.arbState = .wait) (htimer : s.arbTimer < s.cfg.tReply) :
    ∃ n t, n ≤ s.cfg.tReply - s.arbTimer ∧ RunsTo n s t ∧ t.arbState ≠ .wait := by
  obtain ⟨u, hu⟩ := exists_step_next s
  by_cases hstay : u.arbState = .wait
  · obtain ⟨hnext, hlt⟩ := step_wait hst htimer hu hstay
    have hcfg : u.cfg = s.cfg := (parametersAreFixed s u hu).1
    obtain ⟨n, t, hn, hrun, ht⟩ := exists_runsTo_ne_wait u hstay hlt
    refine ⟨n + 1, t, ?_, runsTo_succ_of_step hu hrun, ht⟩
    rw [hcfg] at hn hlt
    omega
  · exact ⟨1, u, by omega, runsTo_one hu, hstay⟩
termination_by s.cfg.tReply - s.arbTimer
decreasing_by rw [hcfg] at hlt ⊢; omega

/-! ## TX, DISPATCH, LEN and BODY -/

/-- A transmitter that is not served keeps its place (R164). -/
theorem step_txStall {s t : State} (hst : s.arbState = .tx) (hr : (inputsNow s).rst = false)
    (hstop : (inputsNow s).ctrlStop = false) (herr : (inputsNow s).txError = false)
    (hready : (inputsNow s).txReady = false) (h : step s = .next t) : SameArbiter s t :=
  step_arbiter hr h (by simpa [hst, hstop, herr, hready] using arbiterOp_cases s : arbiterOp s = .txStall) rfl

/-- A message that is not taken is held (R192). -/
theorem step_dispatchHold {s t : State} (hst : s.arbState = .dispatch) (hr : (inputsNow s).rst = false)
    (hstop : (inputsNow s).ctrlStop = false) (hready : (inputsNow s).msgReady = false) (h : step s = .next t) :
    SameArbiter s t :=
  step_arbiter hr h (by simpa [hst, hstop, hready] using arbiterOp_cases s : arbiterOp s = .arbDispatchHold) rfl

/-- A running decoder outside OFFER that is offered no byte and no read error keeps its registers (R112). -/
theorem step_decIdle {s t : State} (hrun : s.arbState.running = true) (hoffer : s.decState ≠ .offer)
    (hr : (inputsNow s).rst = false) (hstop : (inputsNow s).ctrlStop = false) (herr : (inputsNow s).txError = false)
    (hvalid : (inputsNow s).rxValid = false) (hrxerr : (inputsNow s).rxError = false) (h : step s = .next t) :
    SameDecoder s t :=
  step_decoder hr h
    (by simpa [hrun, hoffer, hstop, herr, hvalid, hrxerr] using decoderOp_cases s : decoderOp s = .decIdle) rfl

/-- An undisturbed link goes on running. -/
theorem step_running {s t : State} (hrun : s.arbState.running = true) (hr : (inputsNow s).rst = false)
    (hstop : (inputsNow s).ctrlStop = false) (herr : (inputsNow s).txError = false) (h : step s = .next t) :
    t.arbState.running = true := by
  obtain ⟨a, -, ha, hat, -⟩ := step_effects hr h
  rw [hat.arbState]
  exact arbiterEffect_running ha hrun hstop fun _ => herr

/-- What HANG_TX asks of the inputs of a cycle (R297). -/
def TransportBusy (x : Inputs) : Prop :=
  (x.rst = false ∧ x.ctrlStop = false ∧ x.txError = false) ∧ x.txReady = false

/-- What HANG_DISPATCH asks of the inputs of a cycle (R297). -/
def HostBusy (x : Inputs) : Prop := x.rst = false ∧ x.ctrlStop = false ∧ x.msgReady = false

/-- What BODY_STARVE asks of the inputs of a cycle (R297). -/
def LineSilent (x : Inputs) : Prop :=
  (x.rst = false ∧ x.ctrlStop = false ∧ x.txError = false) ∧ x.rxValid = false ∧ x.rxError = false

theorem exists_runsTo_tx {n : Nat} {s : State} (hst : s.arbState = .tx)
    (hin : ∀ i, i < n → TransportBusy (inputAt s i)) :
    ∃ t, RunsTo n s t ∧ t.arbState = .tx ∧ t.cur = s.cur ∧ t.txPos = s.txPos := by
  refine exists_runsTo_of_invariant (P := fun t => t.arbState = .tx ∧ t.cur = s.cur ∧ t.txPos = s.txPos) ?_
    ⟨hst, rfl, rfl⟩ hin
  rintro u v ⟨hu, hcur, hpos⟩ ⟨⟨hr, hstop, herr⟩, hready⟩ h
  have hsame := step_txStall hu hr hstop herr hready h
  exact ⟨hsame.arbState.trans hu, hsame.cur.trans hcur, hsame.txPos.trans hpos⟩

theorem exists_runsTo_dispatch {n : Nat} {s : State} (hst : s.arbState = .dispatch)
    (hin : ∀ i, i < n → HostBusy (inputAt s i)) :
    ∃ t, RunsTo n s t ∧ t.arbState = .dispatch ∧ t.rx = s.rx := by
  refine exists_runsTo_of_invariant (P := fun t => t.arbState = .dispatch ∧ t.rx = s.rx) ?_ ⟨hst, rfl⟩ hin
  rintro u v ⟨hu, hrx⟩ ⟨hr, hstop, hready⟩ h
  have hsame := step_dispatchHold hu hr hstop hready h
  exact ⟨hsame.arbState.trans hu, hsame.rx.trans hrx⟩

theorem exists_runsTo_starved {n : Nat} {s : State} (hrun : s.arbState.running = true) (hoffer : s.decState ≠ .offer)
    (hin : ∀ i, i < n → LineSilent (inputAt s i)) :
    ∃ t, RunsTo n s t ∧ t.arbState.running = true ∧ SameDecoder s t := by
  refine exists_runsTo_of_invariant (P := fun t => t.arbState.running = true ∧ SameDecoder s t) ?_
    ⟨hrun, .refl s⟩ hin
  rintro u v ⟨hu, hsame⟩ ⟨⟨hr, hstop, herr⟩, hvalid, hrxerr⟩ h
  have hu' : u.decState ≠ .offer := hsame.decState ▸ hoffer
  exact ⟨step_running hu hr hstop herr h, hsame.trans (step_decIdle hu hu' hr hstop herr hvalid hrxerr h)⟩

/-- Settles O50: WAIT is left because its timer counts up; the other three waits are kept by every cycle of their
premises, and a record that repeats is the input of every cycle. -/
theorem waitIsBounded : Obligations.WaitIsBounded := by
  refine ⟨exists_runsTo_ne_wait, ?_, ?_, ?_, ?_⟩
  · intro n s hst hquiet hready
    exact exists_runsTo_tx hst fun i hi => ⟨hquiet i hi, hready i hi⟩
  · intro n s hst hin
    exact exists_runsTo_dispatch hst hin
  · intro n s hrun hst hquiet hin
    have hoffer : s.decState ≠ .offer := by rcases hst with hst | hst <;> simp [hst]
    obtain ⟨t, hto, htrun, hsame⟩ := exists_runsTo_starved hrun hoffer fun i hi => ⟨hquiet i hi, hin i hi⟩
    exact ⟨t, hto, htrun, hsame.decState, hsame.decLen, hsame.decIdx, hsame.decEsc, hsame.decBuf⟩
  · intro s x i
    simp [inputAt, drop_always]

end Sys2Proof.Proofs.Waits
end

section
/-! PROOFS. A whole frame received in WAIT (R65, R124, R126, R127, R184): what one offered byte does to the decoder of a
waiting link, composed along the bytes of a frame, and the hand-off in the cycle after the last one. -/

namespace Sys2Proof.Proofs.Reception

open Sys2Proof Sys2Proof.Machine Sys2Proof.Proofs.Scope Sys2Proof.Proofs.Agents Sys2Proof.Proofs.Runs
  Sys2Proof.Proofs.Handoff

/-! ## Reading an array that was written in order -/

theorem arrayRead_succ (buf : List Byte) (n : Nat) : arrayRead buf (n + 1) = arrayRead buf n ++ [arrayAt buf n] := by
  simp [arrayRead, List.range_succ]

/-- A write leaves what is read before its index, whatever the array holds. -/
theorem arrayRead_arrayWrite_of_le (buf : List Byte) {i n : Nat} (b : Byte) (h : n ≤ i) :
    arrayRead (arrayWrite buf i b) n = arrayRead buf n := by
  refine List.map_congr_left fun j hj => ?_
  have hlt : j < n := List.mem_range.1 hj
  rw [arrayAt_arrayWrite, if_neg (by omega)]

theorem arrayRead_arrayWrite_succ (buf : List Byte) (n : Nat) (b : Byte) :
    arrayRead (arrayWrite buf n b) (n + 1) = arrayRead buf n ++ [b] := by
  rw [arrayRead_succ, arrayRead_arrayWrite_of_le buf b le_rfl, arrayAt_arrayWrite, if_pos rfl]

/-! ## The decoder's operation on a received byte (R113 to R121) -/

/-- The rows of the decoder's table that are left when a byte is received outside OFFER. -/
theorem decoderOp_receives {b : Byte} {s : State} (h : Receives b s) (hoffer : s.decState ≠ .offer) :
    (decoderOp s = .decSync ∧ s.decState = .hunt ∧ b = 0x7E) ∨
    (decoderOp s = .decHuntSkip b ∧ s.decState = .hunt ∧ b ≠ 0x7E) ∨
    (decoderOp s = .decLenOk b ∧ s.decState = .len ∧ 3 ≤ b.toNat) ∨
    (decoderOp s = .decLenBad b ∧ s.decState = .len ∧ b.toNat < 3) ∨
    (decoderOp s = .decUnstuff b ∧ s.decState = .body ∧ s.decEsc = true) ∨
    (decoderOp s = .decEsc ∧ s.decState = .body ∧ s.decEsc = false ∧
      s.decIdx.toNat + 2 < s.decLen.toNat ∧ b = 0x7D) ∨
    (decoderOp s = .decData b ∧ s.decState = .body ∧ s.decEsc = false ∧
      s.decIdx.toNat + 2 < s.decLen.toNat ∧ b ≠ 0x7D) ∨
    (decoderOp s = .decTrailer b ∧ s.decState = .body ∧ s.decEsc = false ∧
      s.decIdx.toNat + 2 = s.decLen.toNat) ∨
    (decoderOp s = .decComplete b ∧ s.decState = .body ∧ s.decEsc = false ∧
      s.decLen.toNat < s.decIdx.toNat + 2) := by
  obtain ⟨⟨-, hrun, hstop, herr⟩, hrxerr, hvalid, rfl⟩ := h
  rcases decoderOp_cases s with ⟨-, hoff⟩ | ⟨-, ⟨-, hst, -⟩ | ⟨-, hst, -⟩ | ⟨-, hst, -⟩ | ⟨-, hx, -⟩ | ⟨-, -, hx⟩ |
    ⟨-, hrow⟩⟩
  · rcases hoff with hx | hx | ⟨htx, hx⟩
    · simp [hrun] at hx
    · simp [hstop] at hx
    · simp [herr htx] at hx
  · exact absurd hst hoffer
  · exact absurd hst hoffer
  · exact absurd hst hoffer
  · simp [hrxerr] at hx
  · simp [hrxerr, hvalid] at hx
  · exact hrow

/-- In BODY of a frame of length `l`: the bytes `q` are stored, and `esc` says whether an escape is open. -/
structure InBody (l : Byte) (q : List Byte) (esc : Bool) (s : State) : Prop where
  decState : s.decState = .body
  decEsc : s.decEsc = esc
  decLen : s.decLen = l
  decIdx : s.decIdx.toNat = q.length
  decBuf : arrayRead s.decBuf q.length = q

/-- In OFFER, with the payload `p` and the verdict on its trailer `lo`, `hi` (R121). -/
structure Offering (l : Byte) (p : List Byte) (lo hi : Byte) (s : State) : Prop where
  decState : s.decState = .offer
  held : heldMessage s = { n := l - 2, p := p, ok := checkTrailer s.cfg.checksumAlg p lo hi }

theorem InBody.congr {l : Byte} {q : List Byte} {esc : Bool} {s t : State} (h : SameDecoder s t)
    (hs : InBody l q esc s) : InBody l q esc t where
  decState := h.decState.trans hs.decState
  decEsc := h.decEsc.trans hs.decEsc
  decLen := h.decLen.trans hs.decLen
  decIdx := by rw [h.decIdx, hs.decIdx]
  decBuf := by rw [h.decBuf, hs.decBuf]

theorem Offering.congr {l : Byte} {p : List Byte} {lo hi : Byte} {s t : State} (h : SameDecoder s t)
    (hs : Offering l p lo hi s) : Offering l p lo hi t where
  decState := h.decState.trans hs.decState
  held := by rw [heldMessage_congr h, hs.held, h.cfg]

theorem InBody.ne_offer {l : Byte} {q : List Byte} {esc : Bool} {s : State} (h : InBody l q esc s) :
    s.decState ≠ .offer := by simp [h.decState]

/-- Storing a byte inside the frame. -/
theorem InBody.storeByte {l : Byte} {q : List Byte} {esc : Bool} {s : State} (h : InBody l q esc s)
    (hq : q.length < l.toNat) (b : Byte) : InBody l (q ++ [b]) esc (storeByte b s) where
  decState := h.decState
  decEsc := h.decEsc
  decLen := h.decLen
  decIdx := by
    have hl := l.isLt
    have hidx := h.decIdx
    have hnext : (s.decIdx + 1).toNat = s.decIdx.toNat + 1 := by bv_omega
    rw [List.length_append, List.length_singleton, ← hidx]
    exact hnext
  decBuf := by
    simp [Machine.storeByte, h.decIdx, arrayRead_arrayWrite_succ, h.decBuf]

/-- The rows of the decoder's table for a byte received in BODY. -/
theorem InBody.decoderOp_rows {l b : Byte} {q : List Byte} {esc : Bool} {s : State} (h : InBody l q esc s)
    (hb : Receives b s) :
    (esc = true ∧ decoderOp s = .decUnstuff b) ∨
    (esc = false ∧
      ((q.length + 2 < l.toNat ∧ b = 0x7D ∧ decoderOp s = .decEsc) ∨
       (q.length + 2 < l.toNat ∧ b ≠ 0x7D ∧ decoderOp s = .decData b) ∨
       (q.length + 2 = l.toNat ∧ decoderOp s = .decTrailer b) ∨
       (l.toNat < q.length + 2 ∧ decoderOp s = .decComplete b))) := by
  obtain ⟨hst, rfl, rfl, hidx, -⟩ := h
  have hrow := decoderOp_receives hb (by simp [hst])
  simp only [hst, hidx, reduceCtorEq, false_and, and_false, false_or, true_and] at hrow
  rcases hrow with ⟨hop, hesc⟩ | ⟨hop, hesc, hq, h7D⟩ | ⟨hop, hesc, hq, h7D⟩ | ⟨hop, hesc, hq⟩ | ⟨hop, hesc, hq⟩
  · exact .inl ⟨hesc, hop⟩
  · exact .inr ⟨hesc, .inl ⟨hq, h7D, hop⟩⟩
  · exact .inr ⟨hesc, .inr (.inl ⟨hq, h7D, hop⟩)⟩
  · exact .inr ⟨hesc, .inr (.inr (.inl ⟨hq, hop⟩))⟩
  · exact .inr ⟨hesc, .inr (.inr (.inr ⟨hq, hop⟩))⟩

/-- What the byte `b`, received by any running link, makes of a decoder of which `P` holds. -/
def Consumes (b : Byte) (P Q : State → Prop) : Prop :=
  ∀ s, P s → Receives b s → ∃ d, exec (decoderOp s) s = .next d ∧ Q d

theorem exists_exec_of_op {Q : State → Prop} {s d : State} {i : Instr} (hop : decoderOp s = i)
    (hexec : exec i s = .next d) (hd : Q d) : ∃ d, exec (decoderOp s) s = .next d ∧ Q d :=
  ⟨d, hop ▸ hexec, hd⟩

/-- The start byte is consumed in HUNT (R114). -/
theorem consumes_start : Consumes 0x7E (·.decState = .hunt) (·.decState = .len) := by
  intro s hst hb
  have hop : decoderOp s = .decSync := by
    simpa [hst] using decoderOp_receives hb (by simp [hst])
  exact exists_exec_of_op hop rfl rfl

/-- A legal length opens the body (R115). -/
theorem consumes_length {l : Byte} (hl : 3 ≤ l.toNat) : Consumes l (·.decState = .len) (InBody l [] false) := by
  intro s hst hb
  have hop : decoderOp s = .decLenOk l := by
    simpa [hst, hl, hl.not_gt] using decoderOp_receives hb (by simp [hst])
  exact exists_exec_of_op hop rfl ⟨rfl, rfl, rfl, rfl, rfl⟩

section body

variable {l : Byte} {q : List Byte}

/-- A payload byte that is no escape is stored (R117). -/
theorem consumes_data {b : Byte} (hb : b ≠ 0x7D#8) (hq : q.length + 2 < l.toNat) :
    Consumes b (InBody l q false) (InBody l (q ++ [b]) false) := by
  intro s hs hrec
  have hop : decoderOp s = .decData b := by
    simpa [hb, hq, hq.ne, hq.not_gt] using hs.decoderOp_rows hrec
  exact exists_exec_of_op hop rfl (hs.storeByte (by omega) b)

/-- The escape byte opens an escape (R118). -/
theorem consumes_escape (hq : q.length + 2 < l.toNat) :
    Consumes 0x7D (InBody l q false) (InBody l q true) := by
  intro s hs hrec
  have hop : decoderOp s = .decEsc := by
    simpa [hq, hq.ne, hq.not_gt] using hs.decoderOp_rows hrec
  exact exists_exec_of_op hop rfl ⟨hs.decState, rfl, hs.decLen, hs.decIdx, hs.decBuf⟩

/-- The byte behind an escape is stored with the stuffing bit set back, and closes it (R119). -/
theorem consumes_stuffed (hq : q.length + 2 < l.toNat) (b : Byte) :
    Consumes b (InBody l q true) (InBody l (q ++ [b ||| stuffBit]) false) := by
  intro s hs hrec
  have hop : decoderOp s = .decUnstuff b := by
    simpa using hs.decoderOp_rows hrec
  obtain ⟨hst, -, hlen, hidx, hbuf⟩ := hs.storeByte (by omega) (b ||| stuffBit)
  exact exists_exec_of_op hop rfl ⟨hst, rfl, hlen, hidx, hbuf⟩

/-- The first trailer byte is stored behind the payload (R120). -/
theorem consumes_trailer (hq : q.length + 2 = l.toNat) (b : Byte) :
    Consumes b (InBody l q false) (InBody l (q ++ [b]) false) := by
  intro s hs hrec
  have hop : decoderOp s = .decTrailer b := by
    simpa [hq] using hs.decoderOp_rows hrec
  exact exists_exec_of_op hop rfl (hs.storeByte (by omega) b)

/-- The last byte completes the frame, and the decoder offers what it stored (R121). -/
theorem consumes_last {lo : Byte} (hq : q.length + 2 = l.toNat) (hi : Byte) :
    Consumes hi (InBody l (q ++ [lo]) false) (Offering l q lo hi) := by
  intro s hs hrec
  have hop : decoderOp s = .decComplete hi := by
    simpa [← hq] using hs.decoderOp_rows hrec
  have hread : arrayRead s.decBuf q.length ++ [arrayAt s.decBuf q.length] = q ++ [lo] := by
    rw [← arrayRead_succ]
    simpa using hs.decBuf
  obtain ⟨hpayload, hlo⟩ := List.append_inj' hread rfl
  have hlen : l.toNat - 2 = q.length := by omega
  have hbefore : q.length ≤ l.toNat - 1 := by omega
  refine exists_exec_of_op hop rfl ⟨rfl, ?_⟩
  simp [heldMessage, completeVerdict, hs.decLen, hlen, arrayRead_arrayWrite_of_le s.decBuf hi hbefore, hpayload,
    List.singleton_injective hlo]

end body

/-! ## A waiting link that is offered bytes -/

/-- The inputs of a cycle offer the byte `b` and nothing else, and let the link go on. -/
structure Offers (b : Byte) (x : Inputs) : Prop where
  rst : x.rst = false
  ctrlStop : x.ctrlStop = false
  cmdValid : x.cmdValid = false
  rxError : x.rxError = false
  rxValid : x.rxValid = true
  rxData : x.rxData = b

/-- The coming cycles offer the bytes `bs`, one a cycle. -/
def Offered (bs : List Byte) (s : State) : Prop := ∀ i b, bs[i]? = some b → Offers b (inputAt s i)

/-- `n` cycles take `s` to `t`, and all that they do outside the decoder's registers is to count the wait's timer up. -/
structure WaitsTo (n : Nat) (s t : State) : Prop where
  run : RunsTo n s t
  arbState : t.arbState = .wait
  arbTimer : t.arbTimer = s.arbTimer + n
  queue : t.queue = s.queue
  cfg : t.cfg = s.cfg
  stim : t.stim = s.stim.drop n

theorem WaitsTo.trans {m n : Nat} {s t u : State} (hst : WaitsTo m s t) (htu : WaitsTo n t u) :
    WaitsTo (m + n) s u where
  run := runsTo_trans hst.run htu.run
  arbState := htu.arbState
  arbTimer := by rw [htu.arbTimer, hst.arbTimer, Nat.add_assoc]
  queue := htu.queue.trans hst.queue
  cfg := htu.cfg.trans hst.cfg
  stim := by rw [htu.stim, hst.stim, InputStream.drop_add]

theorem WaitsTo.inputAt {n : Nat} {s t : State} (h : WaitsTo n s t) (i : Nat) :
    inputAt t i = inputAt s (n + i) := by
  rw [Machine.inputAt, Machine.inputAt, h.stim, InputStream.drop_add]

/-- A cycle in which no command is offered runs the arbiter's operation and then the decoder's. -/
theorem step_of_no_command {s : State} (hr : (inputsNow s).rst = false) (hc : (inputsNow s).cmdValid = false) :
    step s = runOps [arbiterOp s, decoderOp s] (beginCycle s) := by
  have hop : commandOp s = none := by simpa [hc] using commandOp_cases s
  simp [step_of_no_reset hr, cycleOps, hop]

/-- With time left in the wait and nothing to take over, the arbiter counts (R183). -/
theorem arbiterOp_eq_waitTick {s : State} (hstop : (inputsNow s).ctrlStop = false) (hst : s.arbState = .wait)
    (hoffer : s.decState ≠ .offer) (htimer : s.arbTimer + 1 ≠ s.cfg.tReply) : arbiterOp s = .arbWaitTick := by
  simpa [hstop, hst, hoffer, htimer] using arbiterOp_cases s

/-- A cycle of the wait in which a byte is offered: the arbiter counts, the decoder performs its operation. -/
theorem step_waiting {s d : State} {b : Byte} (hst : s.arbState = .wait) (hoffer : s.decState ≠ .offer)
    (htimer : s.arbTimer + 1 < s.cfg.tReply) (hin : Offers b (inputsNow s)) (hd : exec (decoderOp s) s = .next d) :
    ∃ t, WaitsTo 1 s t ∧ SameDecoder d t := by
  obtain ⟨t, ht⟩ := exec_next (decoderOp_ne_send s) ((beginCycle s).setArbTimer (s.arbTimer + 1))
  have hstep : step s = .next t := by
    rw [step_of_no_command hin.rst hin.cmdValid, arbiterOp_eq_waitTick hin.ctrlStop hst hoffer htimer.ne,
      runOps_cons_next rfl]
    exact runOps_cons_next ht
  obtain ⟨hcfg, hstim, harb, -, -, -, -, htick, -, -, hqueue, -⟩ := exec_decoder_frame (decoderOp_format s) ht
  exact ⟨t, ⟨runsTo_one hstep, harb.trans hst, htick, hqueue, hcfg, hstim⟩,
    step_decoder hin.rst hstep rfl hd⟩

/-- Bytes offered to a waiting link with time for them left lead its decoder from `P` to `Q`. -/
def Takes (bs : List Byte) (P Q : State → Prop) : Prop :=
  ∀ s, P s → s.arbState = .wait → s.arbTimer + bs.length < s.cfg.tReply → Offered bs s →
    ∃ t, WaitsTo bs.length s t ∧ Q t

theorem takes_nil (P : State → Prop) : Takes [] P P :=
  fun s hs hst _ _ => ⟨s, ⟨runsTo_zero s, hst, rfl, rfl, rfl, rfl⟩, hs⟩

theorem Takes.append {bs cs : List Byte} {P Q R : State → Prop} (hb : Takes bs P Q) (hc : Takes cs Q R) :
    Takes (bs ++ cs) P R := by
  intro s hs hst htimer hin
  rw [List.length_append] at htimer ⊢
  obtain ⟨t, hto, ht⟩ := hb s hs hst (by omega) fun i b hi => by
    obtain ⟨hlt, -⟩ := List.getElem?_eq_some_iff.1 hi
    exact hin i b (by rw [List.getElem?_append_left hlt, hi])
  have htimer' : t.arbTimer + cs.length < t.cfg.tReply := by
    rw [hto.arbTimer, hto.cfg]
    omega
  obtain ⟨u, hto', hu⟩ := hc t ht hto.arbState htimer' fun i b hi => by
    rw [hto.inputAt]
    exact hin _ b (by rw [List.getElem?_append_right (Nat.le_add_right _ _), Nat.add_sub_cancel_left, hi])
  exact ⟨u, hto.trans hto', hu⟩

/-- One byte, from what it makes of the decoder. -/
theorem takes_byte {b : Byte} {P Q : State → Prop} (h : Consumes b P Q) (hP : ∀ s, P s → s.decState ≠ .offer)
    (hQ : ∀ s t, SameDecoder s t → Q s → Q t) : Takes [b] P Q := by
  intro s hs hst htimer hin
  have hoffers : Offers b (inputsNow s) := hin 0 b rfl
  have hlive : Live s := ⟨hoffers.rst, by simp [hst, ArbState.running], hoffers.ctrlStop, by simp [hst]⟩
  obtain ⟨d, hd, hq⟩ := h s hs ⟨hlive, hoffers.rxError, hoffers.rxValid, hoffers.rxData⟩
  obtain ⟨t, hto, hsame⟩ := step_waiting hst (hP s hs) htimer hoffers hd
  exact ⟨t, hto, hQ d t hsame hq⟩

theorem takes_body {b l : Byte} {q q' : List Byte} {esc esc' : Bool}
    (h : Consumes b (InBody l q esc) (InBody l q' esc')) : Takes [b] (InBody l q esc) (InBody l q' esc') :=
  takes_byte h (fun _ => InBody.ne_offer) (fun _ _ => InBody.congr)

/-! ## A frame -/

/-- A payload byte as it is sent, stuffed where it is an escape byte, is stored as it was (R127, R161). -/
theorem takes_stuff1 {l : Byte} {q : List Byte} (hq : q.length + 2 < l.toNat) (b : Byte) :
    Takes (stuff1 b) (InBody l q false) (InBody l (q ++ [b]) false) := by
  by_cases hb : b = 0x7D
  · subst hb
    rw [stuff1_esc]
    exact (takes_body (consumes_escape hq)).append (takes_body (consumes_stuffed hq 0x5D))
  · rw [stuff1_other hb]
    exact takes_body (consumes_data hb hq)

theorem takes_stuff {l : Byte} (p : List Byte) {q : List Byte} (hq : q.length + p.length + 2 = l.toNat) :
    Takes (stuff p) (InBody l q false) (InBody l (q ++ p) false) := by
  induction p generalizing q with
  | nil => simpa using takes_nil (InBody l q false)
  | cons b p ih =>
    rw [List.length_cons] at hq
    have hrest : Takes (stuff p) (InBody l (q ++ [b]) false) (InBody l (q ++ [b] ++ p) false) :=
      ih (by simp only [List.length_append, List.length_singleton]; omega)
    rw [stuff_cons, List.append_cons]
    exact (takes_stuff1 (by omega) b).append hrest

/-- A well-formed message's frame leads from HUNT to OFFER of that message, with a good verdict (R121, R127, R160). -/
theorem takes_frame (alg : ChecksumAlg) {m : TxMsg} (hwf : m.wf = true) :
    Takes (encodeFrame alg m) (·.decState = .hunt)
      (Offering (m.n + 2) m.p (checksumLow (checksum alg m.p)) (checksumHigh (checksum alg m.p))) := by
  obtain ⟨hmin, hmax, hn⟩ := (txMsg_wf_iff m).1 hwf
  have hl : m.p.length + 2 = (m.n + 2).toNat := by bv_omega
  have hstart := takes_byte consumes_start (by simp +contextual) (fun _ _ h hs => h.decState.trans hs)
  have hlength := takes_byte (consumes_length (l := m.n + 2) (by omega)) (by simp +contextual) (fun _ _ => InBody.congr)
  have hpayload : Takes (stuff m.p) (InBody (m.n + 2) [] false) (InBody (m.n + 2) m.p false) :=
    takes_stuff m.p (by simpa using hl)
  have hlow := takes_body (consumes_trailer hl (checksumLow (checksum alg m.p)))
  have hhigh := takes_byte (consumes_last (lo := checksumLow (checksum alg m.p)) hl (checksumHigh (checksum alg m.p)))
    (fun _ => InBody.ne_offer) (fun _ _ => Offering.congr)
  rw [encodeFrame_eq]
  exact hstart.append (hlength.append (hpayload.append (hlow.append hhigh)))

/-! ## The hand-off -/

/-- A cycle of the hand-off in which no command is offered, whole (R65). -/
theorem step_handoff {s : State} (hr : (inputsNow s).rst = false) (hstop : (inputsNow s).ctrlStop = false)
    (hc : (inputsNow s).cmdValid = false) (hst : s.arbState = .wait) (hoffer : s.decState = .offer) :
    step s = .next ((((((beginCycle s).setRxPresent true).setRx (heldMessage s)).setArbState .classify).setDecState
      .hunt).raise .handoff) := by
  rw [step_of_no_command hr hc, (arbiterOp_eq_waitRecv_iff s).2 ⟨hstop, hst, hoffer⟩,
    decoderOp_eq_handoff hstop hst hoffer]
  rfl

/-- Settles O21: the frame leads the decoder to OFFER while the arbiter waits, and the next cycle is the hand-off. -/
theorem receivedFrameReachesArbiter : Obligations.ReceivedFrameReachesArbiter := by
  intro s m hwf hst hhunt htimer hquiet hbytes
  have hoffered : Offered (encodeFrame s.cfg.checksumAlg m) s := by
    intro i b hi
    obtain ⟨hlt, hb⟩ := List.getElem?_eq_some_iff.1 hi
    obtain ⟨hr, hstop, hc⟩ := hquiet i (by omega)
    obtain ⟨herr, hvalid, hdata⟩ := hbytes i hlt
    exact ⟨hr, hstop, hc, herr, hvalid, by simpa [hi] using hdata⟩
  obtain ⟨t, hto, ht⟩ := takes_frame s.cfg.checksumAlg hwf s hhunt hst htimer hoffered
  obtain ⟨hr, hstop, hc⟩ := hquiet _ (Nat.lt_succ_self _)
  rw [← Nat.add_zero (encodeFrame s.cfg.checksumAlg m).length, ← hto.inputAt] at hr hstop hc
  have hlast := step_handoff hr hstop hc hto.arbState ht.decState
  have hheld : heldMessage t = { n := m.n, p := m.p, ok := true } := by
    rw [ht.held, hto.cfg, checkTrailer_trailer, BitVec.add_sub_cancel]
  exact ⟨_, runsTo_trans hto.run (runsTo_one hlast), rfl, rfl, rfl, hheld, hto.queue,
    by simp [beginCycle, Event.mask, Event.code]⟩

end Sys2Proof.Proofs.Reception
end

section
/-! PROOFS. The operation map read both ways (R94, R95): each decoder row's own condition, decoding what is encoded, and
the operands of what is decoded. -/

namespace Sys2Proof.Proofs.OperationMap

open Sys2Proof Sys2Proof.Machine

/-! ## The rows of the decoder table (R94) -/

theorem halted_of_running {a : ArbState} (h : a.running = true) : a.halted = false := by
  cases a with
  | off | dead | stopped => cases h
  | select | tx | wait | classify | dispatch => rfl

/-- On a running link `kill` needs no check that the link is not halted. -/
theorem disabled_or_kill_iff (k : DecoderKey) :
    (k.arbState.running = false ∨ k.kill = true) ↔
      (k.arbState.running = false ∨ k.ctrlStop = true ∨ (k.arbState = .tx ∧ k.txError = true)) := by
  cases hrun : k.arbState.running with
  | false => simp
  | true => simp [DecoderKey.kill, halted_of_running hrun]

theorem selectDecoder_eq_disabled_iff (k : DecoderKey) :
    selectDecoder k = .decDisabled ↔ (k.arbState.running = false ∨ k.kill = true) := by
  refine ⟨fun h => ?_, fun h => if_pos h⟩
  rcases selectDecoder_cases k with ⟨-, hoff⟩ | ⟨-, hrow⟩
  · exact (disabled_or_kill_iff k).2 hoff
  · simp [h] at hrow

/-- Settles O6: in each case of the table the key meets that row's condition and no other's. -/
theorem decoderRowConditions : Obligations.DecoderRowConditions := by
  intro k
  refine ⟨selectDecoder_eq_disabled_iff k, fun hrun hkill => ?_⟩
  rcases selectDecoder_cases k with ⟨h, -⟩ | ⟨-, hrow⟩
  · simpa [hrun, hkill] using (selectDecoder_eq_disabled_iff k).1 h
  rcases hrow with ⟨h, hst, harb⟩ | ⟨h, hst, harb, hlast⟩ | ⟨h, hst, harb, hlast⟩ | ⟨h, herr, hst⟩ |
    ⟨h, hoffer, ⟨herr, hst⟩ | ⟨herr, hvalid⟩⟩ | ⟨⟨herr, hvalid⟩, hrow⟩
  · simp [h, hst, harb]
  · simp [h, hst, harb, hlast]
  · simp [h, hst, harb, hlast]
  · rcases hst with hst | hst <;> simp [h, herr, hst]
  · simp [h, herr, hst]
  · simp [h, herr, hvalid, hoffer]
  · rcases hrow with ⟨h, hst, hb⟩ | ⟨h, hst, hb⟩ | ⟨h, hst, hlen⟩ | ⟨h, hst, hlen⟩ | ⟨h, hst, hesc⟩ |
      ⟨h, hst, hesc, hidx, hb⟩ | ⟨h, hst, hesc, hidx, hb⟩ | ⟨h, hst, hesc, hidx⟩ | ⟨h, hst, hesc, hidx⟩
    · simp [h, herr, hvalid, hst, hb]
    · simpa [h, herr, hvalid, hst] using hb
    · simp [h, herr, hvalid, hst, hlen]
    · simp [h, herr, hvalid, hst, hlen]
    · simp [h, herr, hvalid, hst, hesc]
    · simp [h, herr, hvalid, hst, hesc, hidx.ne, hidx.le, hidx, hb]
    · simpa [h, herr, hvalid, hst, hesc, hidx.ne, hidx.le, hidx] using hb
    · simp [h, herr, hvalid, hst, hesc, hidx]
    · simp [h, herr, hvalid, hst, hesc, hidx, hidx.ne', hidx.not_gt]

/-! ## The words that `encode` writes (R94, R95) -/

/-- The rows left to a word that carries a received byte outside OFFER, with no escape open and the payload not at its
end. -/
theorem selectDecoder_receiveKey {d : DecState} (hd : d ≠ .offer) (b : Byte) :
    selectDecoder (receiveKey d b) =
      if d = .hunt then (if b = startByte then .decSync else .decHuntSkip b)
      else if d = .len then (if 3 ≤ b.toNat then .decLenOk b else .decLenBad b)
      else if b = escByte then .decEsc else .decData b := by
  cases d with
  | offer => exact absurd rfl hd
  | hunt | len | body =>
    simp [selectDecoder, receiveKey, quietDecoderKey, DecoderKey.kill, DecoderKey.rxhs, rxReadyOf, ArbState.running]

/-- A command transfer selects by its length first, then by `cmd_head` (R220 to R223). -/
theorem selectCommand_commandKey (head : Bool) (len : Byte) (v : Lanes) (e : TypeSet) :
    selectCommand (commandKey head len v e) =
      some (if commandLengthOk len = true then (if head = true then .qSendPriority len v e else .qSend len v e)
        else .qCmdBad head len v e) := by
  rcases selectCommand_cases (commandKey head len v e) with ⟨-, hno⟩ | ⟨-, ⟨h, (hlen : commandLengthOk len = false)⟩ |
    ⟨h, (hlen : commandLengthOk len = true), (hhead : head = false)⟩ |
    ⟨h, (hlen : commandLengthOk len = true), (hhead : head = true)⟩⟩
  · simp [commandKey] at hno
  · rw [h]; simp [commandKey, hlen]
  · rw [h]; simp [commandKey, hlen, hhead]
  · rw [h]; simp [commandKey, hlen, hhead]

/-- Settles O4: where the row's condition speaks of the operand, well-formedness is that condition; every other word is
one closed row of its table. -/
theorem decodeOfEncode : Obligations.DecodeOfEncode := by
  intro i hwf
  cases i with
  | decHuntSkip b =>
    have hb : b ≠ startByte := of_decide_eq_true hwf
    simp [encode, decode, selectDecoder_receiveKey, hb]
  | decLenOk b =>
    have hb : 3 ≤ b.toNat := of_decide_eq_true hwf
    simp [encode, decode, selectDecoder_receiveKey, hb]
  | decLenBad b =>
    have hb : b.toNat < 3 := of_decide_eq_true hwf
    simp [encode, decode, selectDecoder_receiveKey, hb]
  | decData b =>
    have hb : b ≠ escByte := of_decide_eq_true hwf
    simp [encode, decode, selectDecoder_receiveKey, hb]
  | csumCompute p => exact if_pos hwf
  | csumCheck p lo hi => exact if_pos hwf
  | csumGen p => exact if_pos hwf
  | encFrame m => exact if_pos hwf
  | qCmdBad head len v e =>
    have hlen : commandLengthOk len = false := by simpa [Instr.wellFormed] using hwf
    simp [encode, decode, selectCommand_commandKey, hlen]
  | qSend len v e =>
    have hlen : commandLengthOk len = true := hwf
    simp [encode, decode, selectCommand_commandKey, hlen]
  | qSendPriority len v e =>
    have hlen : commandLengthOk len = true := hwf
    simp [encode, decode, selectCommand_commandKey, hlen]
  | qPushHead m =>
    have hm : m.wf = true := hwf
    simp [encode, decode, selectQueue, hm]
  | qPushOvf m =>
    have hm : m.wf = true := hwf
    simp [encode, decode, selectQueue, hm]
  | _ => rfl

/-! ## The operands of what is decoded (R94, R220, R224) -/

theorem selectDecoder_wellFormed (k : DecoderKey) : (selectDecoder k).wellFormed = true := by
  rcases selectDecoder_cases k with ⟨h, -⟩ | ⟨-, ⟨h, -⟩ | ⟨h, -⟩ | ⟨h, -⟩ | ⟨h, -⟩ | ⟨h, -⟩ | ⟨-, hrow⟩⟩
  iterate 6
    · rw [h]; rfl
  rcases hrow with ⟨h, -⟩ | ⟨h, -, hb⟩ | ⟨h, -, hlen⟩ | ⟨h, -, hlen⟩ | ⟨h, -⟩ | ⟨h, -⟩ | ⟨h, -, -, -, hb⟩ | ⟨h, -⟩ |
    ⟨h, -⟩
  · rw [h]; rfl
  · rw [h]; exact decide_eq_true hb
  · rw [h]; exact decide_eq_true hlen
  · rw [h]; exact decide_eq_true hlen
  · rw [h]; rfl
  · rw [h]; rfl
  · rw [h]; exact decide_eq_true hb
  · rw [h]; rfl
  · rw [h]; rfl

/-- The operations of the arbiter's table have no operands. -/
theorem selectArbiter_wellFormed (k : ArbiterKey) : (selectArbiter k).wellFormed = true := by
  unfold selectArbiter
  iterate 20
    refine iteInduction (motive := fun i : Instr => i.wellFormed = true) (fun _ => rfl) (fun _ => ?_)
  rfl

theorem selectCommand_wellFormed {k : CommandKey} {c : Instr} (h : selectCommand k = some c) :
    c.wellFormed = true := by
  rcases selectCommand_cases k with ⟨hno, -⟩ | ⟨-, ⟨hop, hlen⟩ | ⟨hop, hlen, -⟩ | ⟨hop, hlen, -⟩⟩
  · simp [hno] at h
  all_goals
    cases hop.symm.trans h
    simp [Instr.wellFormed, hlen]

theorem selectQueue_wellFormed {c : QueueCall} {i : Instr} (h : selectQueue c = .op i) : i.wellFormed = true := by
  cases c with
  | pop count =>
    rw [selectQueue] at h
    split_ifs at h
    cases h
    rfl
  | push m count depth =>
    rw [selectQueue] at h
    split_ifs at h with hm hroom
    all_goals
      cases h
      exact eq_true_of_ne_false hm

theorem selectFn_wellFormed {f : FnCall} {i : Instr} (h : selectFn f = .op i) : i.wellFormed = true := by
  cases f with
  | checksum p | check p lo hi | trailer p | frame m =>
    rw [selectFn] at h
    split_ifs at h with hok
    cases h
    exact hok
  | stuff b => cases h; rfl

theorem decode_command_eq_op_iff {k : CommandKey} {c : Instr} :
    decode (.command k) = .op c ↔ selectCommand k = some c := by
  cases h : selectCommand k <;> simp [decode, h]

/-- Settles O5, table by table. -/
theorem decodedIsWellFormed : Obligations.DecodedIsWellFormed := by
  intro w i h
  cases w with
  | decoder k => cases h; exact selectDecoder_wellFormed k
  | arbiter k => cases h; exact selectArbiter_wellFormed k
  | command k => exact selectCommand_wellFormed (decode_command_eq_op_iff.1 h)
  | queue c => exact selectQueue_wellFormed h
  | call f => exact selectFn_wellFormed h

end Sys2Proof.Proofs.OperationMap
end

section
/-! PROOFS. What a step runs: the operations that the cycle's words decode to (R66, R94, R299), and a table word placed
after reset (R95, log 8). -/

namespace Sys2Proof.Proofs.CycleWords

open Sys2Proof Sys2Proof.Machine Sys2Proof.Proofs.Scope Sys2Proof.Proofs.Outputs Sys2Proof.Proofs.Agents
  Sys2Proof.Proofs.Ranges Sys2Proof.Proofs.Unwritten Sys2Proof.Proofs.Reception Sys2Proof.Proofs.OperationMap

/-! ## The operations of a step -/

theorem decode_command_rejected_iff {k : CommandKey} {why : DecodeError} :
    decode (.command k) = .rejected why ↔ selectCommand k = none ∧ why = .noTransfer := by
  cases h : selectCommand k <;> simp [decode, h, eq_comm]

/-- Settles O1: the decoded words are the operations that the cycle selects. -/
theorem stepRunsDecodedOperations : Obligations.StepRunsDecodedOperations := by
  intro s d a hr hd ha
  have hdec : decoderOp s = d := Decoded.op.inj hd
  have harb : arbiterOp s = a := Decoded.op.inj ha
  rw [step_of_no_reset hr, cycleOps, hdec, harb]
  constructor
  · intro c hc
    have hcmd : commandOp s = some c := decode_command_eq_op_iff.1 hc
    split_ifs <;> simp [hcmd]
  · intro why hwhy
    have hcmd : commandOp s = none := (decode_command_rejected_iff.1 hwhy).1
    split_ifs <;> simp [hcmd]

/-- Settles O43, from the totality lemma: a dequeue is selected only where the queue holds a message. -/
theorem stepIsTotal : Obligations.StepIsTotal := exists_step_next

/-- Settles O3: the command word through the host table's equation, every other word by its row. -/
theorem sampleWordsDecode : Obligations.SampleWordsDecode := by
  have hcommand : decode (.command (commandKey true 1 0x23 0)) = .op (.qSendPriority 1 0x23 0) :=
    decode_command_eq_op_iff.2 (selectCommand_commandKey true 1 0x23 0)
  exact ⟨rfl, rfl, rfl, hcommand, rfl, rfl, rfl⟩

/-! ## A placed table word (R95, log 8) -/

theorem byteState_ne_offer (b : Byte) : byteState b ≠ .offer := by
  unfold byteState
  split_ifs <;> decide

theorem runOps_singleton (i : Instr) (s : State) : runOps [i] s = exec i s := by
  cases h : exec i s <;> simp [runOps, h]

section placeByte

variable (b : Byte)

@[simp] theorem placeByte_inputsNow (s : State) : inputsNow (placeByte b s) =
    { Inputs.quiet with rxValid := true, rxData := b, msgReady := false } := rfl

@[simp] theorem placeByte_arbState (s : State) : (placeByte b s).arbState = .dispatch := by
  simp only [placeByte]
  split_ifs <;> rfl

@[simp] theorem placeByte_decState (s : State) : (placeByte b s).decState = byteState b := by
  simp only [placeByte]
  split_ifs <;> rfl

@[simp] theorem placeByte_decEsc (s : State) : (placeByte b s).decEsc = false := by
  simp only [placeByte]
  split_ifs <;> rfl

theorem placeByte_position {b : Byte} (s : State) (h : byteState b = .body) :
    (placeByte b s).decLen = 4 ∧ (placeByte b s).decIdx = 0 := by
  simp [placeByte, h]

/-- The decoder reads a placed byte as the bare byte that the table word stands for (log 8). -/
theorem decoderOp_placeByte (s : State) :
    decoderOp (placeByte b s) = selectDecoder (receiveKey (byteState b) b) := by
  have hkey : decoderKeyOf (placeByte b s) =
      { receiveKey (byteState b) b with
        handoffLast := decide ((placeByte b s).decTimer + 1 = (placeByte b s).cfg.tHandoff)
        decLen := (placeByte b s).decLen
        decIdx := (placeByte b s).decIdx } := by
    simp [decoderKeyOf, receiveKey, quietDecoderKey, Inputs.quiet]
  rw [decoderOp, hkey]
  exact selectDecoder_congr (fun hoffer => absurd hoffer (byteState_ne_offer b))
    (fun hbody => (placeByte_position s hbody).1) (fun hbody => (placeByte_position s hbody).2)

/-- The arbiter holds its dispatch while a placed byte is read, so the cycle is the decoder's operation alone. -/
theorem step_placeByte (s : State) :
    step (placeByte b s) = exec (selectDecoder (receiveKey (byteState b) b)) (beginCycle (placeByte b s)) := by
  have harb : arbiterOp (placeByte b s) = .arbDispatchHold := by
    simpa [Inputs.quiet] using arbiterOp_cases (placeByte b s)
  rw [step_of_no_command rfl rfl, harb, decoderOp_placeByte, runOps_cons_next rfl, runOps_singleton]

end placeByte

/-- On a link that is off with its decoder at rest, a command is the host's operation alone: CTL.IDLE and DEC.DISABLED
write what the registers hold. -/
theorem step_command_off {s : State} {c : Instr} (hr : (inputsNow s).rst = false)
    (hstart : (inputsNow s).ctrlStart = false) (hstop : (inputsNow s).ctrlStop = false) (hst : s.arbState = .off)
    (hhunt : s.decState = .hunt) (hesc : s.decEsc = false) (hc : commandOp s = some c) :
    step s = exec c (beginCycle s) := by
  have harb : arbiterOp s = .ctlIdle := by simpa [hst, hstart, hstop] using arbiterOp_cases s
  have hdec : decoderOp s = .decDisabled := decoderOp_eq_disabled (.inl (by rw [hst]; rfl))
  obtain ⟨t, ht⟩ := exec_next (commandOp_ne_send hc) (beginCycle s)
  have hrest : toHunt t = t := by
    rw [exec_command_frame (commandOp_format hc) ht]
    simp [toHunt_eq, beginCycle, hhunt, hesc]
  calc step s = runOps [c, .ctlIdle, .decDisabled] (beginCycle s) := by
        simp [step_of_no_reset hr, cycleOps, hc, harb, hdec]
    _ = .next (toHunt t) := by rw [runOps_cons_next ht]; rfl
    _ = exec c (beginCycle s) := by rw [hrest, ht]

/-- After reset the command port is ready, so a placed command finds the queue as it is. -/
theorem placeCommand_reset (head : Bool) (len : Byte) : placeCommand head len State.reset =
    { State.reset with
      stim := State.reset.stim.setNow { Inputs.quiet with cmdValid := true, cmdHead := head, cmdLen := len } } := by
  have hready : cmdReady (State.reset.setArbState .off) = true := cmdReady_reset
  simp only [placeCommand, if_pos hready]
  rfl

theorem commandOp_placeCommand (head : Bool) (len : Byte) :
    commandOp (placeCommand head len State.reset) = selectCommand (commandKey head len 0 0) := by
  have hready : cmdReady (placeCommand head len State.reset) = true := by
    rw [placeCommand_reset]
    exact cmdReady_reset
  rw [commandOp, commandKeyOf, hready]
  rfl

theorem decodeTableWord_eq_some_iff {nbits w : Nat} {i : Instr} :
    decodeTableWord nbits w = some i ↔ decode (tableWord nbits w) = .op i := by
  unfold decodeTableWord
  cases decode (tableWord nbits w) <;> simp

/-- Settles O2: a placed byte runs as the decoder's operation alone, a placed command as the host's. -/
theorem placedWordRunsFirst : Obligations.PlacedWordRunsFirst := by
  intro nbits w i h
  rw [decodeTableWord_eq_some_iff, tableWord] at h
  rw [State.withFetchWord, placeWord]
  split_ifs at h ⊢
  · cases h
    exact step_placeByte _ _
  · have hc := (commandOp_placeCommand _ _).trans (decode_command_eq_op_iff.1 h)
    rw [placeCommand_reset] at hc ⊢
    exact step_command_off rfl rfl rfl rfl rfl rfl hc

end Sys2Proof.Proofs.CycleWords
end

section
/-! PROOFS. The payload lanes of the dispatch port (R40, R62, R92). -/

namespace Sys2Proof.Proofs.Lanes

open Sys2Proof Sys2Proof.Machine

theorem ofNat_div_eq_lane (v : Lanes) (i : Nat) : BitVec.ofNat 8 (v.toNat / 2 ^ (8 * i)) = lane v i := by
  rw [← Nat.shiftRight_eq_div_pow]
  rfl

/-- The first byte is in the lowest lane: the shifted rest leaves that lane 0. -/
theorem lane_cons_zero (b : Byte) (bs : List Byte) : lane (bytesToLanes (b :: bs)) 0 = b := by
  ext j hj
  have hport : j < 2024 := by omega
  simp [lane, bytesToLanes, hj, hport]

/-- The other bytes are one lane higher than without the first. -/
theorem lane_cons_succ (b : Byte) (bs : List Byte) {i : Nat} (hi : i + 1 < 253) :
    lane (bytesToLanes (b :: bs)) (i + 1) = lane (bytesToLanes bs) i := by
  ext j hj
  have hport : 8 * (i + 1) + j < 2024 := by omega
  have hlane : 8 * i + j < 2024 := by omega
  have hfirst : 8 ≤ 8 * (i + 1) + j := by omega
  have hshift : 8 * (i + 1) + j - 8 = 8 * i + j := by omega
  simp [lane, bytesToLanes, hport, hlane, hshift, hfirst.not_gt, BitVec.getLsbD_of_ge b _ hfirst]

/-- Within the 253 lanes of a port the lane of a byte list is its element, and 0 past its end. -/
theorem lane_bytesToLanes (bs : List Byte) {i : Nat} (hi : i < 253) : lane (bytesToLanes bs) i = arrayAt bs i := by
  induction bs generalizing i with
  | nil => simp [bytesToLanes, lane, arrayAt]
  | cons b bs ih =>
    cases i with
    | zero => exact lane_cons_zero b bs
    | succ i => rw [lane_cons_succ b bs hi, ih (by omega)]; rfl

/-- Settles O41: the port shows the lanes of the bytes read from the received message. -/
theorem dispatchLanes : Obligations.DispatchLanes := by
  intro s i _ hi _
  rw [ofNat_div_eq_lane, outputs, lane_bytesToLanes _ hi]
  split_ifs with hlt
  · exact arrayAt_arrayRead hlt
  · exact arrayAt_of_le _ (by simpa using hlt)

end Sys2Proof.Proofs.Lanes
end

section
/-! PROOFS. The frame decoder's operations (R110 to R125), each selected through the row conditions of its table (R94). -/

namespace Sys2Proof.Proofs.DecoderOperations

open Sys2Proof Sys2Proof.Machine Sys2Proof.Proofs.Ranges Sys2Proof.Proofs.Handoff
  Sys2Proof.Proofs.OperationMap Sys2Proof.Proofs.Reception

/-- A live cycle is one in which the table's first row does not apply. -/
theorem running_and_not_kill_of_live {s : State} (h : Live s) :
    (decoderKeyOf s).arbState.running = true ∧ (decoderKeyOf s).kill = false := by
  obtain ⟨-, hrun, hstop, herr⟩ := h
  have hkey := disabled_or_kill_iff (decoderKeyOf s)
  refine ⟨hrun, Bool.eq_false_iff.2 fun hkill => ?_⟩
  rcases hkey.1 (.inr hkill) with hx | hx | ⟨htx, hx⟩
  · exact absurd hrun (Bool.eq_false_iff.1 hx)
  · exact absurd hx (Bool.eq_false_iff.1 hstop)
  · exact absurd hx (Bool.eq_false_iff.1 (herr htx))

/-! ## Cycles in which no received byte is used -/

section live

variable {s : State}

theorem decoderOp_eq_drop (h : Live s) (hst : s.decState = .offer) (harb : s.arbState ≠ .wait)
    (htimer : s.decTimer + 1 = s.cfg.tHandoff) : decoderOp s = .decDrop := by
  obtain ⟨hrun, hkill⟩ := running_and_not_kill_of_live h
  obtain ⟨-, hrow, -⟩ := (decoderRowConditions (decoderKeyOf s)).2 hrun hkill
  exact hrow.2 ⟨hst, harb, decide_eq_true htimer⟩

theorem decoderOp_eq_offerHold (h : Live s) (hst : s.decState = .offer) (harb : s.arbState ≠ .wait)
    (htimer : s.decTimer + 1 ≠ s.cfg.tHandoff) : decoderOp s = .decOfferHold := by
  obtain ⟨hrun, hkill⟩ := running_and_not_kill_of_live h
  obtain ⟨-, -, hrow, -⟩ := (decoderRowConditions (decoderKeyOf s)).2 hrun hkill
  exact hrow.2 ⟨hst, harb, decide_eq_false htimer⟩

theorem decoderOp_eq_abort (h : Live s) (hst : s.decState = .len ∨ s.decState = .body)
    (herr : (inputsNow s).rxError = true) : decoderOp s = .decAbort := by
  obtain ⟨hrun, hkill⟩ := running_and_not_kill_of_live h
  obtain ⟨-, -, -, hrow, -⟩ := (decoderRowConditions (decoderKeyOf s)).2 hrun hkill
  exact hrow.2 ⟨herr, hst⟩

theorem decoderOp_eq_idle (h : Live s) (hst : s.decState ≠ .offer)
    (hbyte : ((inputsNow s).rxError = true ∧ s.decState = .hunt) ∨
      ((inputsNow s).rxError = false ∧ (inputsNow s).rxValid = false)) : decoderOp s = .decIdle := by
  obtain ⟨hrun, hkill⟩ := running_and_not_kill_of_live h
  obtain ⟨-, -, -, -, hrow, -⟩ := (decoderRowConditions (decoderKeyOf s)).2 hrun hkill
  exact hrow.2 ⟨hst, hbyte⟩

end live

/-! ## The statements -/

/-- Settles O7: a cycle that is not live leaves only the table's first row, a live one without a byte to use only
DEC.IDLE. -/
theorem decoderDisabledIdleSkip : Obligations.DecoderDisabledIdleSkip := by
  refine ⟨fun s _ hrun => ⟨decoderOp_eq_disabled (.inl hrun), rfl⟩,
    fun s _ _ hkill => ⟨decoderOp_eq_disabled (.inr hkill), rfl⟩,
    fun s hlive hst herr hvalid => ⟨decoderOp_eq_idle hlive hst (.inr ⟨herr, hvalid⟩), rfl⟩,
    fun s hlive hst herr => ⟨decoderOp_eq_idle hlive (by simp [hst]) (.inl ⟨herr, hst⟩), rfl⟩, ?_⟩
  intro s b hb hst hne
  have hrow := decoderOp_receives hb (by simp [hst])
  exact ⟨by simpa [hst, show b ≠ 0x7E#8 from hne] using hrow, rfl⟩

/-- Settles O8: HUNT and LEN leave two rows each, and the byte decides between them. -/
theorem decoderStartAndLength : Obligations.DecoderStartAndLength := by
  refine ⟨?_, ?_, ?_⟩
  · intro s hb hst
    have hrow := decoderOp_receives hb (by simp [hst])
    exact ⟨by simpa [hst] using hrow, rfl⟩
  · intro s b hb hst hlen
    have hrow := decoderOp_receives hb (by simp [hst])
    exact ⟨by simpa [hst, hlen, hlen.not_gt] using hrow, rfl⟩
  · intro s b hb hst hlen
    have hrow := decoderOp_receives hb (by simp [hst])
    exact ⟨by simpa [hst, hlen, hlen.not_ge] using hrow, rfl⟩

/-- Settles O9: in BODY the escape flag, then the position, then at a payload position the byte, decide between the
rows. -/
theorem decoderBodyBytes : Obligations.DecoderBodyBytes := by
  refine ⟨?_, ?_, ?_, ?_⟩
  · intro s b hb hst hesc hidx hne
    have hrow := decoderOp_receives hb (by simp [hst])
    exact ⟨by simpa [hst, hesc, hidx, hidx.ne, hidx.not_gt, show b ≠ 0x7D#8 from hne] using hrow, rfl⟩
  · intro s hb hst hesc hidx
    have hrow := decoderOp_receives hb (by simp [hst])
    exact ⟨by simpa [hst, hesc, hidx, hidx.ne, hidx.not_gt] using hrow, rfl⟩
  · intro s b hb hst hesc
    have hrow := decoderOp_receives hb (by simp [hst])
    exact ⟨by simpa [hst, hesc] using hrow, rfl⟩
  · intro s b hb hst hesc hidx
    have hrow := decoderOp_receives hb (by simp [hst])
    exact ⟨by simpa [hst, hesc, hidx] using hrow, rfl⟩

/-- Settles O11: the last position of BODY leaves only DEC.COMPLETE. -/
theorem decoderCompletesFrame : Obligations.DecoderCompletesFrame := by
  intro s b hb hst hesc hidx
  have hrow := decoderOp_receives hb (by simp [hst])
  refine ⟨by simpa [hst, hesc, ← hidx] using hrow, ?_⟩
  have hverdict : completeVerdict b s = (checksum s.cfg.checksumAlg (arrayRead s.decBuf (s.decLen.toNat - 2)) ==
      (b ++ arrayAt s.decBuf (s.decLen.toNat - 2))) := rfl
  rw [← hverdict]
  rfl

/-- Settles O12. -/
theorem decoderAbortsOnReadError : Obligations.DecoderAbortsOnReadError :=
  fun _ hlive hst herr => ⟨decoderOp_eq_abort hlive hst herr, rfl⟩

/-- Settles O13, an operation at a time. -/
theorem decoderAtTheHandoff : Obligations.DecoderAtTheHandoff :=
  ⟨fun _ hlive hst harb htimer => ⟨decoderOp_eq_offerHold hlive hst harb htimer.ne, rfl⟩,
   fun _ ⟨_, _, hstop, _⟩ hst harb => ⟨decoderOp_eq_handoff hstop harb hst, rfl⟩,
   fun _ hlive hst harb htimer => ⟨decoderOp_eq_drop hlive hst harb htimer, rfl⟩⟩

end Sys2Proof.Proofs.DecoderOperations
end

section
/-! PROOFS. A message that no WAIT comes for: held in OFFER for T_HANDOFF cycles, then dropped (R123, R125, R268). -/

namespace Sys2Proof.Proofs.OfferTimeout

open Sys2Proof Sys2Proof.Machine Sys2Proof.Proofs.Scope Sys2Proof.Proofs.Events
  Sys2Proof.Proofs.Unwritten Sys2Proof.Proofs.Runs Sys2Proof.Proofs.DecoderOperations

/-- A run changes no parameter and uses up its cycles' inputs. -/
theorem runsTo_surroundings {n : Nat} {s t : State} (h : RunsTo n s t) :
    t.cfg = s.cfg ∧ t.stim = s.stim.drop n := by
  induction n generalizing s with
  | zero =>
    cases h
    exact ⟨rfl, rfl⟩
  | succ n ih =>
    obtain ⟨u, hu⟩ := exists_step_next s
    have hcore : core.step s = .next u := hu
    simp only [RunsTo, Host.Core.run, hcore] at h
    obtain ⟨hcfg, hstim⟩ := ih h
    obtain ⟨hcfg', hstim', -⟩ := parametersAreFixed s u hu
    exact ⟨hcfg.trans hcfg', by rw [hstim, hstim', InputStream.drop_succ]⟩

/-- The cycle after a run meets the inputs that stand behind those of the run. -/
theorem inputsNow_of_runsTo {n : Nat} {s t : State} (h : RunsTo n s t) : inputsNow t = inputAt s n := by
  rw [inputsNow, (runsTo_surroundings h).2]
  rfl

/-- The cycle after a run is live, where the link runs and nothing disturbs that cycle. -/
theorem live_of_runsTo {n m : Nat} {s t : State} (h : RunsTo n s t) (hn : n < m) (hquiet : Undisturbed m s)
    (hrun : t.arbState.running = true) : Live t := by
  obtain ⟨hr, hstop, herr⟩ := hquiet n hn
  rw [← inputsNow_of_runsTo h] at hr hstop herr
  exact ⟨hr, hrun, hstop, fun _ => herr⟩

theorem step_offerHold {s t : State} (hlive : Live s) (hst : s.decState = .offer) (harb : s.arbState ≠ .wait)
    (htimer : s.decTimer + 1 ≠ s.cfg.tHandoff) (h : step s = .next t) :
    t.decState = .offer ∧ t.decTimer = s.decTimer + 1 := by
  have hsame := step_decoder hlive.1 h (decoderOp_eq_offerHold hlive hst harb htimer) rfl
  exact ⟨hsame.decState.trans hst, hsame.decTimer⟩

theorem step_drop {s t : State} (hlive : Live s) (hst : s.decState = .offer) (harb : s.arbState ≠ .wait)
    (htimer : s.decTimer + 1 = s.cfg.tHandoff) (h : step s = .next t) :
    t.decState = .hunt ∧ t.ev.getLsbD 3 = true := by
  have hsame := step_decoder hlive.1 h (decoderOp_eq_drop hlive hst harb htimer) rfl
  obtain ⟨-, -, -, hevent, -⟩ := portEventsExactly s t hlive.1 h
  exact ⟨hsame.decState, hevent.2 ⟨hlive, hst, harb, htimer⟩⟩

/-- While cycles are left on the timer, the message stays on offer and the timer counts them. -/
theorem exists_runsTo_offer {m n : Nat} {s : State} (hst : s.decState = .offer) (hn : n ≤ m)
    (htimer : s.decTimer + n < s.cfg.tHandoff) (hquiet : Undisturbed m s)
    (harb : ∀ i t, i < m → RunsTo i s t → t.arbState.running = true ∧ t.arbState ≠ .wait) :
    ∃ t, RunsTo n s t ∧ t.decState = .offer ∧ t.decTimer = s.decTimer + n := by
  induction n with
  | zero => exact ⟨s, runsTo_zero s, hst, rfl⟩
  | succ n ih =>
    obtain ⟨t, hto, ht, hcount⟩ := ih (by omega) (by omega)
    obtain ⟨hrun, hwait⟩ := harb n t hn hto
    obtain ⟨u, hu⟩ := exists_step_next t
    have hlast : t.decTimer + 1 ≠ t.cfg.tHandoff := by
      rw [hcount, (runsTo_surroundings hto).1]
      omega
    obtain ⟨hoffer, hnext⟩ := step_offerHold (live_of_runsTo hto hn hquiet hrun) ht hwait hlast hu
    exact ⟨u, runsTo_trans hto (runsTo_one hu), hoffer, by rw [hnext, hcount, Nat.add_assoc]⟩

/-- Settles O51: the timer counts up to its last value, at which the next cycle drops the message. -/
theorem offerDropsExactly : Obligations.OfferDropsExactly := by
  intro s hst hzero hpos hquiet harb
  have hheld : ∀ i, i < s.cfg.tHandoff → ∃ t, RunsTo i s t ∧ t.decState = .offer ∧ t.decTimer = i := by
    intro i hi
    simpa [hzero] using exists_runsTo_offer hst hi.le (by omega) hquiet harb
  have hlast : s.cfg.tHandoff - 1 < s.cfg.tHandoff := by omega
  obtain ⟨t, hto, ht, hcount⟩ := hheld _ hlast
  obtain ⟨hrun, hwait⟩ := harb _ t hlast hto
  obtain ⟨u, hu⟩ := exists_step_next t
  have htimer : t.decTimer + 1 = t.cfg.tHandoff := by
    rw [hcount, (runsTo_surroundings hto).1, Nat.sub_add_cancel hpos]
  have hdrop := step_drop (live_of_runsTo hto hlast hquiet hrun) ht hwait htimer hu
  refine ⟨hheld, u, ?_, hdrop⟩
  have hfull := runsTo_trans hto (runsTo_one hu)
  rwa [Nat.sub_add_cancel hpos] at hfull

end Sys2Proof.Proofs.OfferTimeout
end

section
/-! PROOFS. DECODE_STREAM on a frame behind noise (R126, R127): the decoder's operations on single received bytes, as
they were proved for a cycle of the link, composed along a stream. -/

namespace Sys2Proof.Proofs.StreamDecoding

open Sys2Proof Sys2Proof.Machine Sys2Proof.Proofs.Scope Sys2Proof.Proofs.Agents Sys2Proof.Proofs.Reception

/-! ## One byte of a stream is one cycle's received byte -/

/-- The cycle of a waiting link in which the byte `b` is received, with the decoder's registers of `s`. -/
def receiving (b : Byte) (s : State) : State :=
  { s with arbState := .wait, stim := .single { Inputs.quiet with rxValid := true, rxData := b } }

theorem receives_receiving (b : Byte) (s : State) : Receives b (receiving b s) :=
  ⟨⟨rfl, rfl, rfl, fun h => nomatch h⟩, rfl, rfl, rfl⟩

theorem sameDecoder_receiving (b : Byte) (s : State) : SameDecoder s (receiving b s) := by constructor <;> rfl

/-- DECODE_STREAM selects the operation that such a cycle performs. -/
theorem decoderOp_receiving (b : Byte) (s : State) : decoderOp (receiving b s) = selectDecoder (streamKey b s) := rfl

/-- `P` speaks of the decoder's registers and the parameters alone. -/
def OfDecoder (P : State → Prop) : Prop := ∀ s t, SameDecoder s t → P s → P t

theorem ofDecoder_decState (v : DecState) : OfDecoder (·.decState = v) := fun _ _ h hs => h.decState.trans hs

theorem ofDecoder_inBody (l : Byte) (q : List Byte) (esc : Bool) : OfDecoder (InBody l q esc) :=
  fun _ _ => InBody.congr

theorem ofDecoder_offering (l : Byte) (p : List Byte) (lo hi : Byte) : OfDecoder (Offering l p lo hi) :=
  fun _ _ => Offering.congr

/-- What a received byte makes of the decoder in a cycle of the link, it makes of it in a stream. -/
theorem exists_exec_of_consumes {b : Byte} {P Q : State → Prop} (h : Consumes b P Q) (hP : OfDecoder P)
    (hQ : OfDecoder Q) {s : State} (hs : P s) :
    ∃ d, exec (selectDecoder (streamKey b s)) s = .next d ∧ d.cfg = s.cfg ∧ Q d := by
  rw [← decoderOp_receiving]
  obtain ⟨d', hd', hq⟩ := h _ (hP _ _ (sameDecoder_receiving b s) hs) (receives_receiving b s)
  obtain ⟨d, hd⟩ := exec_next (decoderOp_ne_send (receiving b s)) s
  have hformat := decoderOp_format (receiving b s)
  have hback : SameDecoder (receiving b s) s := by constructor <;> rfl
  obtain ⟨hcfg, -⟩ := exec_decoder_frame hformat hd
  exact ⟨d, hd, hcfg, hQ _ _ (exec_decoder_congr hformat hback hd' hd) hq⟩

/-! ## Bytes that complete no message -/

/-- A stream's bytes lead the decoder from `P` to `Q`, and no message is collected on the way. -/
def Reads (bs : List Byte) (P Q : State → Prop) : Prop :=
  ∀ s, P s → ∃ t, (∀ rest, streamFrom s (bs ++ rest) = streamFrom t rest) ∧ t.cfg = s.cfg ∧ Q t

theorem reads_nil (P : State → Prop) : Reads [] P P := fun s hs => ⟨s, fun _ => rfl, rfl, hs⟩

theorem Reads.append {bs cs : List Byte} {P Q R : State → Prop} (hb : Reads bs P Q) (hc : Reads cs Q R) :
    Reads (bs ++ cs) P R := by
  intro s hs
  obtain ⟨t, hst, hcfg, ht⟩ := hb s hs
  obtain ⟨u, htu, hcfg', hu⟩ := hc t ht
  exact ⟨u, fun rest => by rw [List.append_assoc, hst, htu], hcfg'.trans hcfg, hu⟩

theorem reads_byte {b : Byte} {P Q : State → Prop} (h : Consumes b P Q) (hP : OfDecoder P) (hQ : OfDecoder Q)
    (hoffer : ∀ s, Q s → s.decState ≠ .offer) : Reads [b] P Q := by
  intro s hs
  obtain ⟨d, hd, hcfg, hq⟩ := exists_exec_of_consumes h hP hQ hs
  exact ⟨d, fun rest => by simp [streamFrom, streamByte, hd, hoffer d hq], hcfg, hq⟩

theorem reads_body {b l : Byte} {q q' : List Byte} {esc esc' : Bool}
    (h : Consumes b (InBody l q esc) (InBody l q' esc')) : Reads [b] (InBody l q esc) (InBody l q' esc') :=
  reads_byte h (ofDecoder_inBody l q esc) (ofDecoder_inBody l q' esc') fun _ => InBody.ne_offer

/-- Noise is skipped in HUNT (R113). -/
theorem consumes_noise {b : Byte} (hb : b ≠ 0x7E#8) : Consumes b (·.decState = .hunt) (·.decState = .hunt) := by
  intro s hst hrec
  have hop : decoderOp s = .decHuntSkip b := by
    simpa [hst, hb] using decoderOp_receives hrec (by simp [hst])
  exact exists_exec_of_op hop rfl hst

theorem reads_noise {g : List Byte} (hg : ∀ b ∈ g, b ≠ 0x7E#8) : Reads g (·.decState = .hunt) (·.decState = .hunt) := by
  induction g with
  | nil => exact reads_nil _
  | cons b g ih =>
    obtain ⟨hb, hrest⟩ := List.forall_mem_cons.1 hg
    have hfirst := reads_byte (consumes_noise hb) (ofDecoder_decState _) (ofDecoder_decState _) (by simp +contextual)
    exact hfirst.append (ih hrest)

/-- A payload byte as it is sent is stored as it was (R127, R161). -/
theorem reads_stuff1 {l : Byte} {q : List Byte} (hq : q.length + 2 < l.toNat) (b : Byte) :
    Reads (stuff1 b) (InBody l q false) (InBody l (q ++ [b]) false) := by
  by_cases hb : b = 0x7D
  · subst hb
    rw [stuff1_esc]
    exact (reads_body (consumes_escape hq)).append (reads_body (consumes_stuffed hq 0x5D))
  · rw [stuff1_other hb]
    exact reads_body (consumes_data hb hq)

theorem reads_stuff {l : Byte} (p : List Byte) {q : List Byte} (hq : q.length + p.length + 2 = l.toNat) :
    Reads (stuff p) (InBody l q false) (InBody l (q ++ p) false) := by
  induction p generalizing q with
  | nil => simpa using reads_nil (InBody l q false)
  | cons b p ih =>
    rw [List.length_cons] at hq
    have hrest : Reads (stuff p) (InBody l (q ++ [b]) false) (InBody l (q ++ [b] ++ p) false) :=
      ih (by simp only [List.length_append, List.length_singleton]; omega)
    rw [stuff_cons, List.append_cons]
    exact (reads_stuff1 (by omega) b).append hrest

/-! ## A frame -/

/-- A frame up to its low checksum byte leads from HUNT to the last position of BODY. -/
theorem reads_frame_but_last {l : Byte} {p : List Byte} (hmin : 1 ≤ p.length) (hl : p.length + 2 = l.toNat)
    (lo : Byte) :
    Reads (0x7E :: l :: (stuff p ++ [lo])) (·.decState = .hunt) (InBody l (p ++ [lo]) false) := by
  have hstart := reads_byte consumes_start (ofDecoder_decState _) (ofDecoder_decState _) (by simp +contextual)
  have hlength := reads_byte (consumes_length (l := l) (by omega)) (ofDecoder_decState _) (ofDecoder_inBody l [] false)
    fun _ => InBody.ne_offer
  have hpayload : Reads (stuff p) (InBody l [] false) (InBody l p false) := reads_stuff p (by simpa using hl)
  exact hstart.append (hlength.append (hpayload.append (reads_body (consumes_trailer hl lo))))

/-- The high checksum byte completes the frame, and the message with its verdict is collected (R121, R126). -/
theorem streamFrom_last {l lo hi : Byte} {p : List Byte} (hl : p.length + 2 = l.toNat) {s : State}
    (hs : InBody l (p ++ [lo]) false s) :
    streamFrom s [hi] = [{ n := l - 2, p := p, ok := checkTrailer s.cfg.checksumAlg p lo hi }] := by
  obtain ⟨d, hd, hcfg, hst, hheld⟩ := exists_exec_of_consumes (consumes_last hl hi) (ofDecoder_inBody _ _ _)
    (ofDecoder_offering _ _ _ _) hs
  simp [streamFrom, streamByte, hd, hst, hheld, hcfg]

/-- Settles O20: noise leaves the decoder in HUNT, the frame but for its last byte fills BODY, and the last byte completes
the message, with the verdict on the trailer that the encoder wrote. -/
theorem frameRoundTrip : Obligations.FrameRoundTrip := by
  intro alg m g hwf hg
  obtain ⟨hmin, hmax, hn⟩ := (txMsg_wf_iff m).1 hwf
  have hl : m.p.length + 2 = (m.n + 2).toNat := by bv_omega
  obtain ⟨t, hstream, hcfg, ht⟩ := (reads_noise hg).append
    (reads_frame_but_last hmin hl (checksumLow (checksum alg m.p))) (streamStart alg) rfl
  have halg : t.cfg.checksumAlg = alg := by rw [hcfg]; rfl
  calc decodeStream alg (g ++ encodeFrame alg m)
      = streamFrom t [checksumHigh (checksum alg m.p)] := by
        rw [← hstream, decodeStream, encodeFrame_eq]
        simp
    _ = [{ n := m.n, p := m.p, ok := true }] := by
        rw [streamFrom_last hl ht, halg, checkTrailer_trailer, BitVec.add_sub_cancel]

end Sys2Proof.Proofs.StreamDecoding
end

section
/-! PROOFS. The checksum unit (R140 to R145): the bytes of a checksum value, FLETCHER16 as two sums modulo 255,
CRC16_CCITT as a run of invertible shifts, and what either says of one inverted bit. -/

namespace Sys2Proof.Proofs.ChecksumUnit

open Sys2Proof Sys2Proof.Machine

/-! ## The two bytes of a checksum value (R62, R87) -/

theorem toNat_append_byte (hi lo : Byte) : (hi ++ lo).toNat = hi.toNat * 256 + lo.toNat := by
  rw [BitVec.toNat_append, ← Nat.shiftLeft_add_eq_or_of_lt lo.isLt, Nat.shiftLeft_eq]

theorem checksumLow_eq_ofNat (c : Checksum) : checksumLow c = BitVec.ofNat 8 (c.toNat % 256) := by
  apply BitVec.eq_of_toNat_eq
  simp [checksumLow]

theorem checksumHigh_eq_ofNat (c : Checksum) : checksumHigh c = BitVec.ofNat 8 (c.toNat / 256) := by
  apply BitVec.eq_of_toNat_eq
  simp [checksumHigh, Nat.shiftRight_eq_div_pow]

theorem checkTrailer_eq_decide (alg : ChecksumAlg) (p : List Byte) (lo hi : Byte) :
    checkTrailer alg p lo hi = decide ((checksum alg p).toNat = hi.toNat * 256 + lo.toNat) := by
  rw [Bool.eq_iff_iff]
  simp [checkTrailer, ← toNat_append_byte, BitVec.toNat_inj]

theorem trailer_eq_ofNat (alg : ChecksumAlg) (p : List Byte) :
    trailer alg p = [BitVec.ofNat 8 ((checksum alg p).toNat % 256),
      BitVec.ofNat 8 ((checksum alg p).toNat / 256)] := by
  rw [trailer, checksumLow_eq_ofNat, checksumHigh_eq_ofNat]

/-- The trailer of one payload passes the check on another exactly when their checksums are equal. -/
theorem checkTrailer_of_payload (alg : ChecksumAlg) (p q : List Byte) :
    checkTrailer alg p (checksumLow (checksum alg q)) (checksumHigh (checksum alg q)) =
      (checksum alg p == checksum alg q) := by
  rw [checkTrailer, checksum_bytes]

/-! ## The functions as operations (log 6) -/

theorem exec_csumCompute (p : List Byte) (s : State) :
    exec (.csumCompute p) s = .next { s with ret := .word (checksum s.cfg.checksumAlg p) } := rfl

theorem exec_csumCheck (p : List Byte) (lo hi : Byte) (s : State) :
    exec (.csumCheck p lo hi) s = .next { s with ret := .bit (checkTrailer s.cfg.checksumAlg p lo hi) } := rfl

theorem exec_csumGen (p : List Byte) (s : State) :
    exec (.csumGen p) s = .next { s with ret := .bytes (trailer s.cfg.checksumAlg p) } := rfl

theorem exec_encFrame (m : TxMsg) (s : State) :
    exec (.encFrame m) s = .next { s with ret := .bytes (encodeFrame s.cfg.checksumAlg m) } := rfl

theorem exec_encStuff (b : Byte) (s : State) :
    exec (.encStuff b) s = .next { s with ret := .bytes (stuff1 b) } := rfl

theorem stuff1_eq_ite (b : Byte) : stuff1 b = if b = 0x7D then [0x7D, 0x5D] else [b] := by
  split_ifs with hb
  · rw [hb, stuff1_esc]
  · exact stuff1_other hb

theorem encodeFrame_eq_flatten (alg : ChecksumAlg) (m : TxMsg) :
    encodeFrame alg m = [0x7E, m.n + 2] ++
      (m.p.map fun c => if c = 0x7D then [0x7D, 0x5D] else [c]).flatten ++ trailer alg m.p := by
  rw [← funext stuff1_eq_ite]
  rfl

/-- Settles O14: each operation leaves the value of its function, and the two functions that the statement writes in
arithmetic, the check and the trailer, are put into that form. -/
theorem functionOperationsReturn : Obligations.FunctionOperationsReturn := by
  intro s p lo hi b m
  refine ⟨exec_csumCompute p s, ?_, ?_, ?_, ?_⟩
  · rw [exec_csumCheck, checkTrailer_eq_decide]
  · rw [exec_csumGen, trailer_eq_ofNat]
  · rw [exec_encFrame, encodeFrame_eq_flatten, trailer_eq_ofNat]
  · rw [exec_encStuff, stuff1_eq_ite]

/-! ## FLETCHER16 (R142) -/

/-- The sum of the bytes of a payload. -/
def byteSum (p : List Byte) : Nat := (p.map BitVec.toNat).sum

/-- The sum of the bytes of a payload, byte `i` counted `len - i` times. -/
def weightedSum (p : List Byte) : Nat := (p.zipIdx.map fun x => (p.length - x.2) * x.1.toNat).sum

@[simp] theorem byteSum_nil : byteSum [] = 0 := rfl

@[simp] theorem byteSum_cons (b : Byte) (p : List Byte) : byteSum (b :: p) = b.toNat + byteSum p := rfl

@[simp] theorem byteSum_append (p q : List Byte) : byteSum (p ++ q) = byteSum p + byteSum q := by
  simp [byteSum]

@[simp] theorem weightedSum_nil : weightedSum [] = 0 := rfl

/-- The first byte counts once for every byte of the payload; the others count as in the payload without it. -/
@[simp] theorem weightedSum_cons (b : Byte) (p : List Byte) :
    weightedSum (b :: p) = (p.length + 1) * b.toNat + weightedSum p := by
  simp [weightedSum, List.zipIdx_succ, Function.comp_def]

theorem fletcherStep_mod (s1 s2 : Nat) (b : Byte) :
    fletcherStep (s1 % 255, s2 % 255) b = ((s1 + b.toNat) % 255, (s2 + (s1 + b.toNat)) % 255) := by
  simp [fletcherStep]

/-- FLETCHER16 from any two sums: the first counts once more in the second for every byte that follows. -/
theorem foldl_fletcherStep (p : List Byte) (s1 s2 : Nat) :
    p.foldl fletcherStep (s1 % 255, s2 % 255) =
      ((s1 + byteSum p) % 255, (s2 + p.length * s1 + weightedSum p) % 255) := by
  induction p generalizing s1 s2 with
  | nil => simp
  | cons b p ih =>
    rw [List.foldl_cons, fletcherStep_mod, ih]
    simp only [byteSum_cons, weightedSum_cons, List.length_cons]
    congr 2 <;> ring

theorem fletcherSums_eq (p : List Byte) : fletcherSums p = (byteSum p % 255, weightedSum p % 255) := by
  simpa [fletcherSums] using foldl_fletcherStep p 0 0

theorem toNat_fletcher16 (p : List Byte) :
    (fletcher16 p).toNat = weightedSum p % 255 * 256 + byteSum p % 255 := by
  rw [fletcher16, toNat_append_byte, fletcherSums_eq, BitVec.toNat_ofNat, BitVec.toNat_ofNat]
  omega

/-- Settles O15: the two sums of `toNat_fletcher16`, each a remainder modulo 255 and so never 0xFF. -/
theorem fletcherClosedForm : Obligations.FletcherClosedForm := by
  intro p
  have hsum := toNat_fletcher16 p
  refine ⟨hsum, ?_, ?_⟩
  · rw [checksumLow_eq_ofNat]
    bv_omega
  · rw [checksumHigh_eq_ofNat]
    bv_omega

/-! ## CRC16_CCITT (R143) -/

theorem crc16Ccitt_append (p q : List Byte) : crc16Ccitt (p ++ q) = q.foldl crcByte (crc16Ccitt p) :=
  List.foldl_append

theorem crcShift_eq_getLsbD (c : Checksum) :
    crcShift c = if c.getLsbD 15 = true then (c <<< 1) ^^^ 0x1021 else c <<< 1 := by
  rw [crcShift, BitVec.msb_eq_getLsbD_last]

theorem crcByte_eq_iterate (c : Checksum) (b : Byte) :
    crcByte c b = crcShift^[8] (c ^^^ (b.setWidth 16 <<< 8)) := rfl

/-- The polynomial is odd, so a shift keeps the bit it shifts out as its lowest bit. -/
theorem crcShift_getLsbD_zero (c : Checksum) : (crcShift c).getLsbD 0 = c.msb := by
  cases hmsb : c.msb <;> simp [crcShift, hmsb]

theorem eq_of_shiftLeft_one_eq {c d : Checksum} (hmsb : c.msb = d.msb) (h : c <<< 1 = d <<< 1) : c = d := by
  rw [BitVec.msb_eq_decide, BitVec.msb_eq_decide, decide_eq_decide] at hmsb
  have htwice := congrArg BitVec.toNat h
  simp only [BitVec.toNat_shiftLeft, Nat.shiftLeft_eq] at htwice
  bv_omega

/-- A shift loses nothing: the lowest bit of the result says whether the polynomial was put in. -/
theorem crcShift_injective : Function.Injective crcShift := by
  intro c d h
  have hmsb : c.msb = d.msb := by rw [← crcShift_getLsbD_zero, h, crcShift_getLsbD_zero]
  refine eq_of_shiftLeft_one_eq hmsb ?_
  cases hd : d.msb <;> simpa [crcShift, hmsb, hd] using h

theorem crcShift_surjective : Function.Surjective crcShift :=
  Finite.surjective_of_injective crcShift_injective

/-- The operand of the exclusive-or of a byte: the byte above eight zeros. -/
theorem setWidth_shiftLeft_eq_append (b : Byte) : b.setWidth 16 <<< 8 = b ++ 0#8 := by
  apply BitVec.eq_of_toNat_eq
  rw [toNat_append_byte]
  bv_omega

theorem crcByte_injective_left (b : Byte) : Function.Injective (crcByte · b) := fun _ _ h =>
  (BitVec.xor_left_inj _).1 (crcShift_injective.iterate 8 h)

theorem crcByte_injective_right (c : Checksum) : Function.Injective (crcByte c) := by
  intro a b h
  have hshift := (BitVec.xor_right_inj _).1 (crcShift_injective.iterate 8 h)
  have hbytes := congrArg BitVec.toNat hshift
  simp only [setWidth_shiftLeft_eq_append, toNat_append_byte] at hbytes
  exact BitVec.eq_of_toNat_eq (by omega)

theorem foldl_crcByte_injective (v : List Byte) : Function.Injective (v.foldl crcByte) := by
  induction v with
  | nil => exact Function.injective_id
  | cons b v ih => exact ih.comp (crcByte_injective_left b)

/-- A value with the low byte of `d` is made into `d` by the exclusive-or of a byte. -/
theorem exists_xor_byte_eq {c d : Checksum} (h : checksumLow c = checksumLow d) :
    ∃ b : Byte, c ^^^ (b.setWidth 16 <<< 8) = d := by
  refine ⟨checksumHigh c ^^^ checksumHigh d, ?_⟩
  nth_rw 1 [← checksum_bytes c]
  rw [setWidth_shiftLeft_eq_append, BitVec.xor_append, ← BitVec.xor_assoc, BitVec.xor_self, BitVec.zero_xor,
    BitVec.xor_zero, h, checksum_bytes]

/-- The byte whose CRC has the low byte `l`. With `x = h ^ (h >> 4)` for the high byte `h` that goes into the shifts,
the low byte that comes out is `x ^ (x << 5)`; both steps are undone here, and the initial 0xFF is taken out of `h`. -/
def byteOfLow (l : Byte) : Byte :=
  0xFF ^^^ ((l ^^^ (l <<< 5)) ^^^ ((l ^^^ (l <<< 5)) >>> 4))

theorem checksumLow_crc_byteOfLow (l : Byte) : checksumLow (crc16Ccitt [byteOfLow l]) = l := by
  revert l
  decide

/-- Every CRC is that of two bytes: undo the second byte's shifts, choose the first byte for the low half of what they
started from, and the second for the high half. -/
theorem exists_crc_pair_eq (c : Checksum) : ∃ a b : Byte, crc16Ccitt [a, b] = c := by
  obtain ⟨d, hd⟩ := crcShift_surjective.iterate 8 c
  obtain ⟨b, hb⟩ := exists_xor_byte_eq (checksumLow_crc_byteOfLow (checksumLow d))
  refine ⟨byteOfLow (checksumLow d), b, ?_⟩
  calc crc16Ccitt [byteOfLow (checksumLow d), b]
      = crcShift^[8] (crc16Ccitt [byteOfLow (checksumLow d)] ^^^ (b.setWidth 16 <<< 8)) := rfl
    _ = c := by rw [hb, hd]

/-- Settles O16: a byte is eight shifts, two bytes reach every value, and the two sample payloads are evaluated. -/
theorem crcBitByBit : Obligations.CrcBitByBit := by
  refine ⟨rfl, fun p b => ?_, exists_crc_pair_eq, by decide +kernel, by decide⟩
  rw [← funext crcShift_eq_getLsbD, crc16Ccitt_append]
  exact crcByte_eq_iterate _ b

/-! ## One inverted bit (R144) -/

/-- Modulo 255 only 0x00 and 0xFF are congruent without being equal, and they differ in every bit. -/
theorem eq_or_xor_eq_of_mod_eq {a b : Byte} (h : a.toNat % 255 = b.toNat % 255) : a = b ∨ b ^^^ a = 0xFF := by
  have hcases : a.toNat = b.toNat ∨ a = 0x00 ∧ b = 0xFF ∨ a = 0xFF ∧ b = 0x00 := by bv_omega
  obtain heq | ⟨rfl, rfl⟩ | ⟨rfl, rfl⟩ := hcases
  · exact .inl (BitVec.eq_of_toNat_eq heq)
  · exact .inr rfl
  · exact .inr rfl

/-- An inversion of some but not all bits changes a byte's remainder. -/
theorem toNat_xor_mod_ne {b d : Byte} (hsome : d ≠ 0) (hnotAll : d ≠ 0xFF) :
    (b ^^^ d).toNat % 255 ≠ b.toNat % 255 := by
  intro h
  obtain heq | hall := eq_or_xor_eq_of_mod_eq h
  · exact hsome ((BitVec.xor_right_inj b).1 (heq.trans BitVec.xor_zero.symm))
  · exact hnotAll (by rw [← hall, ← BitVec.xor_assoc, BitVec.xor_self, BitVec.zero_xor])

theorem toNat_xor_bit_mod_ne (b : Byte) {k : Nat} (hk : k < 8) :
    (b ^^^ (1#8 <<< k)).toNat % 255 ≠ b.toNat % 255 := by
  obtain ⟨hsome, hnotAll⟩ : 1#8 <<< k ≠ 0 ∧ 1#8 <<< k ≠ 0xFF := by interval_cases k <;> decide
  exact toNat_xor_mod_ne hsome hnotAll

theorem xor_bit_ne (b : Byte) {k : Nat} (hk : k < 8) : b ^^^ (1#8 <<< k) ≠ b := fun h =>
  toNat_xor_bit_mod_ne b hk (by rw [h])

theorem fletcher16_byte_ne (u v : List Byte) {a b : Byte} (hab : a.toNat % 255 ≠ b.toNat % 255) :
    fletcher16 (u ++ a :: v) ≠ fletcher16 (u ++ b :: v) := by
  intro h
  have hsums := congrArg BitVec.toNat h
  simp only [toNat_fletcher16, byteSum_append, byteSum_cons] at hsums
  omega

theorem crc16Ccitt_byte_ne (u v : List Byte) {a b : Byte} (hab : a ≠ b) :
    crc16Ccitt (u ++ a :: v) ≠ crc16Ccitt (u ++ b :: v) := by
  rw [crc16Ccitt_append, crc16Ccitt_append]
  exact (foldl_crcByte_injective v).ne ((crcByte_injective_right _).ne hab)

/-- R144, the checksum: FLETCHER16 sees the byte's remainder modulo 255, CRC16_CCITT any other byte. -/
theorem checksum_xor_bit_ne (alg : ChecksumAlg) (u v : List Byte) (b : Byte) {k : Nat} (hk : k < 8) :
    checksum alg (u ++ (b ^^^ (1#8 <<< k)) :: v) ≠ checksum alg (u ++ b :: v) := by
  cases alg with
  | fletcher16 => exact fletcher16_byte_ne u v (toNat_xor_bit_mod_ne b hk)
  | crc16Ccitt => exact crc16Ccitt_byte_ne u v (xor_bit_ne b hk)

/-- Settles O17: the check compares the two checksums, and one inverted bit makes them differ. -/
theorem singleBitErrorDetected : Obligations.SingleBitErrorDetected := by
  intro alg u v b k hk
  have hne := checksum_xor_bit_ne alg u v b hk
  exact ⟨hne, by rw [checkTrailer_of_payload, beq_eq_false_iff_ne.2 hne]⟩

end Sys2Proof.Proofs.ChecksumUnit
end

section
/-! PROOFS. The encoder and the transmitter (R160 to R167): the ACK frame, the operations of TX, and a frame followed
byte by byte through the cycles of TX. -/

namespace Sys2Proof.Proofs.Transmitter

open Sys2Proof Sys2Proof.Machine Sys2Proof.Proofs.Events Sys2Proof.Proofs.Ranges Sys2Proof.Proofs.Unwritten
  Sys2Proof.Proofs.Runs Sys2Proof.Proofs.Waits Sys2Proof.Proofs.OfferTimeout Sys2Proof.Proofs.ChecksumUnit

/-! ## The ACK frame (R21, R167) -/

theorem fletcher16_ackType : fletcher16 [0x1D] = 0x1D1D := by decide

/-- The ACK's one payload byte is its type, which needs no stuffing. -/
theorem encodeFrame_ackMsg (alg : ChecksumAlg) :
    encodeFrame alg ackMsg = 0x7E :: 0x03 :: 0x1D :: trailer alg [0x1D] := rfl

/-- Settles O19: the two algorithms differ in the trailer alone, the checksum of the byte 0x1D. -/
theorem ackFrameBytes : Obligations.AckFrameBytes := by
  obtain ⟨-, -, -, -, hcrc⟩ := crcBitByBit
  constructor
  · rw [encodeFrame_ackMsg, trailer, checksum, fletcher16_ackType]
    rfl
  · rw [encodeFrame_ackMsg, trailer, checksum, hcrc]
    rfl

/-! ## The operations of TX (R162 to R165) -/

section tx

variable {s : State}

/-- In TX the transport takes the byte on the port in every cycle in which it is ready (R90). -/
theorem txTransfer_of_tx (hr : (inputsNow s).rst = false) (htx : s.arbState = .tx) :
    txTransfer s = if (inputsNow s).txReady = true then some (txData s) else none := by
  simp [txTransfer, txValid, hr, htx]

/-- In TX the port carries the frame's byte at `tx_pos` (R41). -/
theorem txData_of_tx (htx : s.arbState = .tx) :
    txData s = (encodeFrame s.cfg.checksumAlg s.cur).getD s.txPos.toNat 0 := if_pos htx

theorem txTransfer_of_ready (hr : (inputsNow s).rst = false) (htx : s.arbState = .tx)
    (hready : (inputsNow s).txReady = true) :
    txTransfer s = some ((encodeFrame s.cfg.checksumAlg s.cur).getD s.txPos.toNat 0) := by
  rw [txTransfer_of_tx hr htx, if_pos hready, txData_of_tx htx]

theorem txTransfer_of_stall (hr : (inputsNow s).rst = false) (htx : s.arbState = .tx)
    (hready : (inputsNow s).txReady = false) : txTransfer s = none := by
  rw [txTransfer_of_tx hr htx, if_neg (by simp [hready])]

theorem arbiterOp_eq_txError (hstop : (inputsNow s).ctrlStop = false) (htx : s.arbState = .tx)
    (herr : (inputsNow s).txError = true) : arbiterOp s = .txError := by
  simpa [hstop, htx, herr] using arbiterOp_cases s

theorem arbiterOp_eq_txLast (hstop : (inputsNow s).ctrlStop = false) (htx : s.arbState = .tx)
    (herr : (inputsNow s).txError = false) (hready : (inputsNow s).txReady = true)
    (hlast : s.txPos.toNat + 1 = (curFrame s).length) : arbiterOp s = .txLast := by
  simpa [hstop, htx, herr, hready, hlast] using arbiterOp_cases s

theorem arbiterOp_eq_txByte (hstop : (inputsNow s).ctrlStop = false) (htx : s.arbState = .tx)
    (herr : (inputsNow s).txError = false) (hready : (inputsNow s).txReady = true)
    (hmore : s.txPos.toNat + 1 ≠ (curFrame s).length) : arbiterOp s = .txByte := by
  simpa [hstop, htx, herr, hready, hmore] using arbiterOp_cases s

theorem arbiterOp_eq_txStall (hstop : (inputsNow s).ctrlStop = false) (htx : s.arbState = .tx)
    (herr : (inputsNow s).txError = false) (hready : (inputsNow s).txReady = false) : arbiterOp s = .txStall := by
  simpa [hstop, htx, herr, hready] using arbiterOp_cases s

end tx

/-- Settles O22: without a transmit failure `tx_ready`, then the position, decide between the rows of TX. -/
theorem transmitterSends : Obligations.TransmitterSends := by
  refine ⟨?_, ?_, ?_⟩
  · rintro s ⟨hr, hstop⟩ htx herr hready hmore
    exact ⟨txTransfer_of_ready hr htx hready, arbiterOp_eq_txByte hstop htx herr hready hmore.ne, rfl⟩
  · rintro s ⟨hr, hstop⟩ htx herr hready hlast
    exact ⟨txTransfer_of_ready hr htx hready, arbiterOp_eq_txLast hstop htx herr hready hlast, rfl⟩
  · rintro s ⟨hr, hstop⟩ htx herr hready
    exact ⟨txTransfer_of_stall hr htx hready, arbiterOp_eq_txStall hstop htx herr hready, rfl⟩

/-- Settles O23: the failure is looked at before `tx_ready`, and it is the decoder's `kill` of the same cycle. -/
theorem transmitErrorIsFatal : Obligations.TransmitErrorIsFatal := by
  rintro s ⟨hr, hstop⟩ htx herr
  exact ⟨arbiterOp_eq_txError hstop htx herr, rfl, decoderOp_eq_disabled (.inr (.inr ⟨htx, herr⟩)),
    txTransfer_of_tx hr htx⟩

/-! ## The transmit port over several cycles -/

theorem txTrace_succ_of_step {n : Nat} {s t : State} (h : step s = .next t) :
    txTrace (n + 1) s = (txTransfer s).toList ++ txTrace n t := by
  simp only [txTrace, h]

/-- The cycle after a run adds the byte it transfers to what the port has carried. -/
theorem txTrace_succ_of_runsTo {n : Nat} {s t : State} (h : RunsTo n s t) :
    txTrace (n + 1) s = txTrace n s ++ (txTransfer t).toList := by
  induction n generalizing s with
  | zero =>
    cases h
    obtain ⟨u, hu⟩ := exists_step_next t
    rw [txTrace_succ_of_step hu, txTrace, txTrace, List.append_nil, List.nil_append]
  | succ n ih =>
    obtain ⟨u, hu⟩ := exists_step_next s
    have hcore : core.step s = .next u := hu
    simp only [RunsTo, Host.Core.run, hcore] at h
    rw [txTrace_succ_of_step hu, ih h, txTrace_succ_of_step hu, List.append_assoc]

/-- After `n` cycles from `s` the arbiter of `t` is still sending the frame of `s`, `tx_pos` counts the cycles in which
the transport was ready, and the port has carried that many of the frame's bytes (R34, R166). -/
structure Sending (n : Nat) (s t : State) : Prop where
  run : RunsTo n s t
  arbState : t.arbState = .tx
  cur : t.cur = s.cur
  txPos : t.txPos.toNat = readyCount s n
  trace : txTrace n s = (curFrame s).take (readyCount s n)

namespace Sending

variable {n m : Nat} {s t u : State}

theorem start (htx : s.arbState = .tx) (hzero : s.txPos = 0) : Sending 0 s s where
  run := runsTo_zero s
  arbState := htx
  cur := rfl
  txPos := by rw [hzero]; rfl
  trace := rfl

theorem curFrame_eq (h : Sending n s t) : curFrame t = curFrame s := by
  rw [curFrame, curFrame, h.cur, (runsTo_surroundings h.run).1]

theorem live (h : Sending n s t) (hn : n < m) (hquiet : Undisturbed m s) : Live t :=
  live_of_runsTo h.run hn hquiet (by rw [h.arbState]; rfl)

theorem readyCount_of_ready (h : Sending n s t) (hready : (inputsNow t).txReady = true) :
    readyCount s (n + 1) = readyCount s n + 1 := by
  rw [readyCount, ← inputsNow_of_runsTo h.run, if_pos hready]

theorem readyCount_of_stall (h : Sending n s t) (hready : (inputsNow t).txReady = false) :
    readyCount s (n + 1) = readyCount s n := by
  rw [readyCount, ← inputsNow_of_runsTo h.run, hready]
  rfl

theorem trace_succ (h : Sending n s t) :
    txTrace (n + 1) s = sentAfter ((curFrame t).take t.txPos.toNat) t := by
  rw [txTrace_succ_of_runsTo h.run, h.trace, sentAfter, if_pos h.arbState, h.curFrame_eq, h.txPos]

theorem trace_of_stall (h : Sending n s t) (hready : (inputsNow t).txReady = false) :
    txTrace (n + 1) s = (curFrame s).take (readyCount s (n + 1)) := by
  rw [h.trace_succ, sentAfter_of_stall h.arbState hready, h.curFrame_eq, h.txPos, h.readyCount_of_stall hready]

theorem trace_of_ready (h : Sending n s t) (hr : (inputsNow t).rst = false) (hready : (inputsNow t).txReady = true)
    (hlt : readyCount s n < (curFrame s).length) :
    txTrace (n + 1) s = (curFrame s).take (readyCount s (n + 1)) := by
  have hpos : t.txPos.toNat < (curFrame t).length := by rwa [h.txPos, h.curFrame_eq]
  rw [h.trace_succ, sentAfter_of_ready hr h.arbState hready hpos, h.curFrame_eq, h.txPos, h.readyCount_of_ready hready]

/-- A stall keeps everything (R164). -/
theorem stall (h : Sending n s t) (hlive : Live t) (hready : (inputsNow t).txReady = false)
    (hu : step t = .next u) : Sending (n + 1) s u := by
  obtain ⟨hr, -, hstop, herr⟩ := hlive
  have hsame := step_txStall h.arbState hr hstop (herr h.arbState) hready hu
  exact {
    run := runsTo_trans h.run (runsTo_one hu)
    arbState := hsame.arbState.trans h.arbState
    cur := hsame.cur.trans h.cur
    txPos := by rw [hsame.txPos, h.txPos, h.readyCount_of_stall hready]
    trace := h.trace_of_stall hready }

/-- A byte before the last one moves the position on (R162). -/
theorem byte (h : Sending n s t) (hwf : s.cur.wf = true) (hlive : Live t) (hready : (inputsNow t).txReady = true)
    (hmore : readyCount s n + 1 < (curFrame s).length) (hu : step t = .next u) : Sending (n + 1) s u := by
  obtain ⟨hr, -, hstop, herr⟩ := hlive
  have hpos : t.txPos.toNat + 1 < (curFrame t).length := by rwa [h.txPos, h.curFrame_eq]
  have hwft : t.cur.wf = true := by rwa [h.cur]
  have hop := arbiterOp_eq_txByte hstop h.arbState (herr h.arbState) hready hpos.ne
  have hsame := step_arbiter hr hu hop rfl
  exact {
    run := runsTo_trans h.run (runsTo_one hu)
    arbState := hsame.arbState.trans h.arbState
    cur := hsame.cur.trans h.cur
    txPos := by
      rw [hsame.txPos, State.setTxPos_txPos, txPos_succ_toNat hwft (Nat.lt_of_succ_lt hpos), h.txPos,
        h.readyCount_of_ready hready]
    trace := h.trace_of_ready hr hready (Nat.lt_of_succ_lt hmore) }

/-- The last byte leads to WAIT with a fresh timer, and raises EV_TX_DONE (R163). -/
theorem step_last (h : Sending n s t) (hlive : Live t) (hready : (inputsNow t).txReady = true)
    (hlast : readyCount s n + 1 = (curFrame s).length) (hu : step t = .next u) :
    u.arbState = .wait ∧ u.arbTimer = 0 ∧ u.ev.getLsbD 5 = true := by
  obtain ⟨hr, -, hstop, herr⟩ := id hlive
  have hpos : t.txPos.toNat + 1 = (curFrame t).length := by rwa [h.txPos, h.curFrame_eq]
  have hop := arbiterOp_eq_txLast hstop h.arbState (herr h.arbState) hready hpos
  have hsame := step_arbiter hr hu hop rfl
  obtain ⟨-, -, -, -, -, hdone, -⟩ := portEventsExactly t u hr hu
  exact ⟨hsame.arbState, hsame.arbTimer, hdone.2 ⟨hlive, h.arbState, hready, hpos⟩⟩

end Sending

/-- As long as the transport has not been ready once for every byte of the frame, the frame is being sent. -/
theorem exists_sending {n : Nat} {s : State} (htx : s.arbState = .tx) (hzero : s.txPos = 0) (hwf : s.cur.wf = true)
    (hquiet : Undisturbed n s) (hlt : readyCount s n < (curFrame s).length) : ∃ t, Sending n s t := by
  induction n with
  | zero => exact ⟨s, .start htx hzero⟩
  | succ n ih =>
    have hle : readyCount s n ≤ readyCount s (n + 1) := Nat.le_add_right _ _
    obtain ⟨t, ht⟩ := ih (fun i hi => hquiet i (Nat.lt_succ_of_lt hi)) (hle.trans_lt hlt)
    have hlive := ht.live n.lt_succ_self hquiet
    obtain ⟨u, hu⟩ := exists_step_next t
    cases hready : (inputsNow t).txReady with
    | false => exact ⟨u, ht.stall hlive hready hu⟩
    | true =>
      rw [ht.readyCount_of_ready hready] at hlt
      exact ⟨u, ht.byte hwf hlive hready hlt hu⟩

/-- Settles O24: every cycle before that of the last byte keeps `Sending`; in that one the count reaches the frame's
length, so the transport is ready and TX.LAST is performed. -/
theorem frameIntegrity : Obligations.FrameIntegrity := by
  intro n s htx hzero hwf hquiet
  refine ⟨fun hlt => ?_, fun hfull hlt hquiet' => ?_⟩
  · obtain ⟨t, ht⟩ := exists_sending htx hzero hwf hquiet hlt
    exact ⟨ht.trace, t, ht.run, ht.arbState, ht.cur, ht.txPos⟩
  · obtain ⟨t, ht⟩ := exists_sending htx hzero hwf hquiet hlt
    have hlive := ht.live n.lt_succ_self hquiet'
    obtain ⟨u, hu⟩ := exists_step_next t
    cases hready : (inputsNow t).txReady with
    | false =>
      rw [ht.readyCount_of_stall hready] at hfull
      exact absurd hfull hlt.ne
    | true =>
      have hlast : readyCount s n + 1 = (curFrame s).length := by rw [← hfull, ht.readyCount_of_ready hready]
      refine ⟨?_, u, runsTo_trans ht.run (runsTo_one hu), ht.step_last hlive hready hlast hu⟩
      rw [ht.trace_of_ready hlive.1 hready hlt, hfull, List.take_length]

end Sys2Proof.Proofs.Transmitter
end

section
/-! PROOFS. The link arbiter's operations in SELECT, WAIT, CLASSIFY and DISPATCH (R180 to R193): the row of the
arbiter's table that its state and the cycle's inputs leave, and the state that a classification's push and `route()`
leave. -/

namespace Sys2Proof.Proofs.ArbiterOperations

open Sys2Proof Sys2Proof.Machine Sys2Proof.Proofs.Agents Sys2Proof.Proofs.QueueOrder Sys2Proof.Proofs.Handoff
  Sys2Proof.Proofs.Reception

/-! ## Which operation (R94) -/

section rows

variable {s : State}

theorem arbiterOp_eq_selectEmpty (hstop : (inputsNow s).ctrlStop = false) (hst : s.arbState = .select)
    (hskip : s.arbSkip = false) (hq : s.queue = []) : arbiterOp s = .arbSelectEmpty := by
  simpa [hstop, hst, hskip, hq] using arbiterOp_cases s

theorem arbiterOp_eq_selectSkip (hstop : (inputsNow s).ctrlStop = false) (hst : s.arbState = .select)
    (hskip : s.arbSkip = true) : arbiterOp s = .arbSelectSkip := by
  simpa [hstop, hst, hskip] using arbiterOp_cases s

theorem arbiterOp_eq_waitTimeout (hstop : (inputsNow s).ctrlStop = false) (hst : s.arbState = .wait)
    (hoffer : s.decState ≠ .offer) (htimer : s.arbTimer + 1 = s.cfg.tReply) : arbiterOp s = .arbWaitTimeout := by
  simpa [hstop, hst, hoffer, htimer] using arbiterOp_cases s

theorem arbiterOp_eq_clsIdle (hstop : (inputsNow s).ctrlStop = false) (hst : s.arbState = .classify)
    (hexp : s.arbExpect = 0) (hrx : s.rxPresent = false) : arbiterOp s = .arbClsIdle := by
  simpa [hstop, hst, hexp, hrx] using arbiterOp_cases s

theorem arbiterOp_eq_match (hstop : (inputsNow s).ctrlStop = false) (hst : s.arbState = .classify)
    (hexp : s.arbExpect ≠ 0#256) (hrx : s.rxPresent = true)
    (hhit : s.arbExpect.getLsbD (msgType s.rx.p).toNat = true) : arbiterOp s = .arbClsMatch := by
  simpa [hstop, hst, hexp, hrx, hhit] using arbiterOp_cases s

theorem arbiterOp_eq_dispatchHold (hstop : (inputsNow s).ctrlStop = false) (hst : s.arbState = .dispatch)
    (hready : (inputsNow s).msgReady = false) : arbiterOp s = .arbDispatchHold := by
  simpa [hstop, hst, hready] using arbiterOp_cases s

theorem arbiterOp_eq_dispatchDone (hstop : (inputsNow s).ctrlStop = false) (hst : s.arbState = .dispatch)
    (hready : (inputsNow s).msgReady = true) : arbiterOp s = .arbDispatchDone := by
  simpa [hstop, hst, hready] using arbiterOp_cases s

/-- In DISPATCH the host takes the payload in every cycle in which it is ready (R90, R92). -/
theorem msgTransfer_of_dispatch (hr : (inputsNow s).rst = false) (hst : s.arbState = .dispatch) :
    msgTransfer s = if (inputsNow s).msgReady = true then some (arrayRead s.rx.p s.rx.n.toNat) else none := by
  simp [msgTransfer, msgValid, hr, hst]

end rows

/-! ## What a classification leaves (R186 to R191) -/

section outcomes

variable {s : State}

/-- `route()` with nothing received. -/
theorem route_of_absent (hrx : s.rxPresent = false) : route s = { s with arbState := .select } := by
  simp [route_eq, hrx]

/-- `route()` with a message received. -/
theorem route_of_present (hrx : s.rxPresent = true) :
    route s = if s.rx.ok = true then { s with arbState := .dispatch }
      else { s with arbState := .select, ev := s.ev ||| 0x0800 } := by
  cases hok : s.rx.ok <;> simp [route_eq, hrx, hok]

/-- The same as one record, for a classification that has set its events `e` before. -/
theorem route_of_present_ev {e : BitVec 16} (hrx : s.rxPresent = true) :
    route { s with ev := s.ev ||| e } = { s with
      arbState := if s.rx.ok = true then .dispatch else .select,
      ev := s.ev ||| (if s.rx.ok = true then e else e ||| 0x0800) } := by
  cases hok : s.rx.ok <;> simp [route_of_present, hrx, hok, BitVec.or_assoc]

theorem exec_clsIdle (hrx : s.rxPresent = false) :
    exec .arbClsIdle s = .next { s with arbState := .select, ev := s.ev ||| 0x0040 } :=
  congrArg Host.Outcome.next (route_of_absent (s := s.raise .idleTimeout) hrx)

theorem exec_retry_of_room (hrx : s.rxPresent = false) (hroom : s.queue.length < s.cfg.txqDepth) :
    exec .arbClsRetry s = .next { s with
      arbState := .select, queue := s.cur :: s.queue, ev := s.ev ||| 0x0080 } := by
  show Host.Outcome.next (route ((pushHead s.cur s).raise .retry)) = _
  rw [pushHead_of_room hroom, route_of_absent (by exact hrx)]
  rfl

theorem exec_retry_of_full (hrx : s.rxPresent = false) (hfull : s.cfg.txqDepth ≤ s.queue.length) :
    exec .arbClsRetry s = .next { s with
      arbState := .select, txqOvf := true, ev := s.ev ||| 0x2080 } := by
  show Host.Outcome.next (route ((pushHead s.cur s).raise .retry)) = _
  rw [pushHead_of_full hfull, route_of_absent (by exact hrx)]
  simp [State.raise, Event.mask, Event.code, BitVec.or_assoc]

theorem exec_unexpected_of_room (hrx : s.rxPresent = true) (hroom : s.queue.length < s.cfg.txqDepth) :
    exec .arbClsUnexpected s = .next { s with
      arbState := if s.rx.ok = true then .dispatch else .select, queue := s.cur :: s.queue, arbSkip := true,
      ev := s.ev ||| (if s.rx.ok = true then 0x0100 else 0x0900) } := by
  show Host.Outcome.next (route (((pushHead s.cur s).setArbSkip true).raise .unexpected)) = _
  rw [pushHead_of_room hroom]
  exact congrArg Host.Outcome.next
    (route_of_present_ev (s := { s with queue := s.cur :: s.queue, arbSkip := true }) (e := 0x0100) hrx)

theorem exec_unexpected_of_full (hrx : s.rxPresent = true) (hfull : s.cfg.txqDepth ≤ s.queue.length) :
    exec .arbClsUnexpected s = .next { s with
      arbState := if s.rx.ok = true then .dispatch else .select, txqOvf := true, arbSkip := true,
      ev := s.ev ||| (if s.rx.ok = true then 0x2100 else 0x2900) } := by
  have hpush : ((pushHead s.cur s).setArbSkip true).raise .unexpected =
      { s with txqOvf := true, arbSkip := true, ev := s.ev ||| 0x2100 } := by
    rw [pushHead_of_full hfull]
    simp [State.setArbSkip, State.raise, Event.mask, Event.code, BitVec.or_assoc]
  show Host.Outcome.next (route (((pushHead s.cur s).setArbSkip true).raise .unexpected)) = _
  rw [hpush]
  exact congrArg Host.Outcome.next
    (route_of_present_ev (s := { s with txqOvf := true, arbSkip := true }) (e := 0x2100) hrx)

theorem exec_match (hrx : s.rxPresent = true) :
    exec .arbClsMatch s = .next { s with
      arbState := if s.rx.ok = true then .dispatch else .select,
      ev := s.ev ||| (if s.rx.ok = true then 0x0200 else 0x0A00) } :=
  congrArg Host.Outcome.next (route_of_present_ev (e := 0x0200) hrx)

end outcomes

/-! ## The statements -/

/-- Settles O29: the skip flag goes before the queue. -/
theorem selectOperations : Obligations.SelectOperations := by
  refine ⟨?_, ?_, ?_⟩
  · rintro s m rest ⟨-, hstop⟩ hst hskip hq
    exact ⟨arbiterOp_eq_send hstop hst hskip (by simp [hq]), exec_send hq⟩
  · rintro s ⟨-, hstop⟩ hst hskip hq
    exact ⟨arbiterOp_eq_selectEmpty hstop hst hskip hq, rfl⟩
  · rintro s ⟨-, hstop⟩ hst hskip
    exact ⟨arbiterOp_eq_selectSkip hstop hst hskip, rfl⟩

/-- Settles O30: a message on offer goes before the timer. -/
theorem waitOperations : Obligations.WaitOperations := by
  refine ⟨?_, ?_, ?_⟩
  · rintro s ⟨-, hstop⟩ hst hoffer htimer
    exact ⟨arbiterOp_eq_waitTick hstop hst hoffer htimer.ne, rfl⟩
  · rintro s ⟨-, hstop⟩ hst hoffer
    exact ⟨(arbiterOp_eq_waitRecv_iff s).2 ⟨hstop, hst, hoffer⟩, rfl⟩
  · rintro s ⟨-, hstop⟩ hst hoffer htimer
    exact ⟨arbiterOp_eq_waitTimeout hstop hst hoffer htimer, rfl⟩

/-- Settles O31: the state in between is the one that the push of an owed ACK leaves; `route()` reads neither the queue
nor the events. -/
theorem unsolicitedOperation : Obligations.UnsolicitedOperation := by
  rintro s ⟨-, hstop⟩ hst hexp hrx
  have hsame := sameArbiter_ackIfOwed s
  refine ⟨arbiterOp_eq_unsolicited hstop hst hexp hrx,
    if ackRequired s.cfg (msgType s.rx.p) = true then pushAck s else s, ?_, ?_, ?_, ?_⟩
  · intro hno
    exact if_neg (Bool.eq_false_iff.1 hno)
  · intro hack hroom
    exact (if_pos hack).trans (pushAck_of_room hroom)
  · intro hack hfull
    exact (if_pos hack).trans (pushAck_of_full hfull)
  · have hroute := route_of_present (hsame.rxPresent.trans hrx)
    rw [congrArg RxMsg.ok hsame.rx] at hroute
    exact congrArg Host.Outcome.next hroute

/-- Settles O32: the expected set, then what was received, select the classification; the room in the queue decides
between a push and an overflow. -/
theorem classifyOperations : Obligations.ClassifyOperations := by
  refine ⟨?_, ?_, ?_, ?_, ?_, ?_⟩
  · rintro s ⟨-, hstop⟩ hst hexp hrx
    exact ⟨arbiterOp_eq_clsIdle hstop hst hexp hrx, exec_clsIdle hrx⟩
  · rintro s ⟨-, hstop⟩ hst hexp hrx hroom
    exact ⟨arbiterOp_eq_retry hstop hst hexp hrx, exec_retry_of_room hrx hroom⟩
  · rintro s ⟨-, hstop⟩ hst hexp hrx hfull
    exact ⟨arbiterOp_eq_retry hstop hst hexp hrx, exec_retry_of_full hrx hfull⟩
  · rintro s ⟨-, hstop⟩ hst hexp hrx hmiss hroom
    exact ⟨arbiterOp_eq_unexpected hstop hst hexp hrx hmiss, exec_unexpected_of_room hrx hroom⟩
  · rintro s ⟨-, hstop⟩ hst hexp hrx hmiss hfull
    exact ⟨arbiterOp_eq_unexpected hstop hst hexp hrx hmiss, exec_unexpected_of_full hrx hfull⟩
  · rintro s ⟨-, hstop⟩ hst hexp hrx hhit
    exact ⟨arbiterOp_eq_match hstop hst hexp hrx hhit, exec_match hrx⟩

/-- Settles O33: `msg_ready` decides between holding the message and handing it out. -/
theorem dispatchOperations : Obligations.DispatchOperations := by
  refine ⟨?_, ?_⟩
  · rintro s ⟨hr, hstop⟩ hst hready
    refine ⟨decide_eq_true hst, ?_, arbiterOp_eq_dispatchHold hstop hst hready, rfl⟩
    rw [msgTransfer_of_dispatch hr hst, if_neg (Bool.eq_false_iff.1 hready)]
  · rintro s ⟨hr, hstop⟩ hst hready
    refine ⟨arbiterOp_eq_dispatchDone hstop hst hready, rfl, ?_⟩
    rw [msgTransfer_of_dispatch hr hst, if_pos hready]

end Sys2Proof.Proofs.ArbiterOperations
end

section
/-! PROOFS. The events of CLASSIFY, of DISPATCH and of the queue's overflow (R195, R260, R266): what `route()` and the
pushes raise, hence each operation of the arbiter, hence a cycle. -/

namespace Sys2Proof.Proofs.ArbiterEvents

open Sys2Proof Sys2Proof.Machine Sys2Proof.Proofs.Scope Sys2Proof.Proofs.Agents Sys2Proof.Proofs.Events

/-! ## The operations -/

/-- What `route()` raises (R191). -/
def routeRaises (s : State) (e : Event) : Bool := decide (Event.csumErr = e) && (s.rxPresent && !s.rx.ok)

/-- What the push of `cur` raises (R226). -/
def pushRaises (s : State) (e : Event) : Bool := decide (Event.txqOvf = e) && !hasRoom s

/-- What the push of an owed ACK raises (R187, R226). -/
def ackRaises (s : State) (e : Event) : Bool := (decide (Event.ackQueued = e) && hasRoom s) || pushRaises s e

/-- What an operation of a cycle raises in `s` of the events that are no port events. -/
def arbiterRaises (i : Instr) (s : State) (e : Event) : Bool :=
  match i with
  | .arbClsIdle => decide (Event.idleTimeout = e) || routeRaises s e
  | .arbClsUnsolicited => (ackRequired s.cfg (msgType s.rx.p) && ackRaises s e) || routeRaises s e
  | .arbClsRetry => pushRaises s e || decide (Event.retry = e) || routeRaises s e
  | .arbClsUnexpected => pushRaises s e || decide (Event.unexpected = e) || routeRaises s e
  | .arbClsMatch => decide (Event.matched = e) || routeRaises s e
  | .arbDispatchDone => decide (Event.dispatched = e)
  | _ => false

theorem route_ev_code (s : State) (e : Event) :
    (route s).ev.getLsbD e.code = (s.ev.getLsbD e.code || routeRaises s e) := by
  unfold route routeRaises
  cases s.rxPresent <;> cases s.rx.ok <;> simp [raise_ev_code, -State.raise_ev]

theorem pushHead_ev_code (m : TxMsg) (s : State) (e : Event) :
    (pushHead m s).ev.getLsbD e.code = (s.ev.getLsbD e.code || pushRaises s e) := by
  unfold pushHead pushRaises pushOverflow
  cases hasRoom s <;> simp [raise_ev_code, -State.raise_ev]

theorem pushAck_ev_code (s : State) (e : Event) :
    (pushAck s).ev.getLsbD e.code = (s.ev.getLsbD e.code || ackRaises s e) := by
  unfold pushAck ackRaises
  cases hroom : hasRoom s <;> simp [raise_ev_code, pushHead_ev_code, pushRaises, hroom, -State.raise_ev]

/-- What an operation that a cycle can run does to the bit of an event that is no port event. -/
theorem exec_ev_arbiter {e : Event} (he : ¬ IsPortEvent e) {i : Instr} (hi : i.format ≠ .qi) {s t : State}
    (h : exec i s = .next t) : t.ev.getLsbD e.code = (s.ev.getLsbD e.code || arbiterRaises i s e) := by
  simp only [IsPortEvent, not_or, eq_comm (a := e)] at he
  cases i
  case arbSelectSend =>
    obtain ⟨m, rest, -, rfl⟩ := exec_send_next h
    simp [arbiterRaises]
  case qPop | qPushHead | qPushOvf => exact absurd rfl hi
  all_goals cases h
  case arbClsUnsolicited =>
    rw [route_ev_code, routeRaises, (sameArbiter_ackIfOwed s).rxPresent, (sameArbiter_ackIfOwed s).rx]
    cases hack : ackRequired s.cfg (msgType s.rx.p) <;>
      simp [arbiterRaises, routeRaises, hack, pushAck_ev_code, Bool.or_assoc]
  case arbClsRetry | arbClsUnexpected =>
    have hsame := sameArbiter_pushHead s.cur s
    simp [arbiterRaises, routeRaises, route_ev_code, raise_ev_code, pushHead_ev_code, hsame.rxPresent, hsame.rx,
      Bool.or_assoc, -State.raise_ev]
  case arbClsIdle | arbClsMatch | arbDispatchDone =>
    simp [arbiterRaises, routeRaises, route_ev_code, raise_ev_code, Bool.or_assoc, -State.raise_ev]
  case decAbort | decLenBad | decComplete | decHandoff | decDrop | qCmdBad | txLast | txError =>
    simp [arbiterRaises, toHunt, enterWait, enterDead, raise_ev_code, he, -State.raise_ev]
  all_goals simp [arbiterRaises, toHunt, storeByte, enterWait]

/-! ## A cycle -/

/-- A port that is open to the host leaves an entry free for an internal push of the same cycle (R220). -/
theorem hasRoom_after_command {s u : State} (h : runOps (commandOp s).toList (beginCycle s) = .next u) :
    hasRoom u = hasRoom s := by
  have hcfg : u.cfg = s.cfg := (runOps_commandOp_sameAgents h).1.cfg
  rcases commandOp_cases s with ⟨hop, -⟩ | ⟨⟨-, hready⟩, hrow⟩
  · rw [hop] at h
    cases h
    rfl
  · obtain ⟨-, -, hlimit⟩ := (cmdReady_iff s).1 hready
    have hlen : u.queue.length ≤ s.queue.length + 1 := by
      rcases hrow with ⟨hop, -⟩ | ⟨hop, -⟩ | ⟨hop, -⟩ <;> rw [hop] at h <;> cases h <;> simp [beginCycle]
    rw [hasRoom, hasRoom, hcfg, decide_eq_true (by omega), decide_eq_true (by omega)]

theorem arbiterRaises_congr {s u : State} (hsame : SameArbiter s u) (hroom : hasRoom u = hasRoom s) (i : Instr)
    (e : Event) : arbiterRaises i u e = arbiterRaises i s e := by
  have hroute : routeRaises u e = routeRaises s e := by rw [routeRaises, hsame.rxPresent, hsame.rx]; rfl
  have hpush : pushRaises u e = pushRaises s e := by rw [pushRaises, hroom]; rfl
  have hack : ackRaises u e = ackRaises s e := by rw [ackRaises, hroom, hpush]; rfl
  cases i <;> simp only [arbiterRaises, hroute, hpush, hack, hsame.cfg, hsame.rx]

/-- Neither a command nor a decoder operation raises an event other than a port event. -/
theorem arbiterRaises_of_format {i : Instr} (hi : i.format = .cmd ∨ i.format = .dec ∨ i.format = .rx) (s : State)
    (e : Event) : arbiterRaises i s e = false := by
  cases i
  case arbClsIdle | arbClsUnsolicited | arbClsRetry | arbClsUnexpected | arbClsMatch | arbDispatchDone =>
    simp [Instr.format] at hi
  all_goals rfl

theorem runOps_commandOp_ev {e : Event} (he : ¬ IsPortEvent e) {s u v : State}
    (h : runOps (commandOp s).toList u = .next v) : v.ev.getLsbD e.code = u.ev.getLsbD e.code := by
  cases hc : commandOp s with
  | none =>
    rw [hc] at h
    cases h
    rfl
  | some c =>
    rw [hc] at h
    have hformat := commandOp_format hc
    rw [exec_ev_arbiter he (by simp [hformat]) (runOps_single h), arbiterRaises_of_format (.inl hformat), Bool.or_false]

/-- An event that is no port event is set after a cycle exactly when the arbiter's operation raises it in the state
before the cycle, since `ev` starts cleared (R39). -/
theorem step_ev_arbiter {e : Event} (he : ¬ IsPortEvent e) {s t : State} (hr : (inputsNow s).rst = false)
    (h : step s = .next t) : t.ev.getLsbD e.code = arbiterRaises (arbiterOp s) s e := by
  have hclear : (beginCycle s).ev.getLsbD e.code = false := BitVec.getLsbD_zero
  have harbFormat : (arbiterOp s).format ≠ .qi := by rcases arbiterOp_format s with hf | hf | hf <;> simp [hf]
  have hdecFormat : (decoderOp s).format ≠ .qi := by rcases decoderOp_format s with hf | hf <;> simp [hf]
  obtain ⟨u, v, hdec, hparts⟩ := step_next_parts hr h
  rw [exec_ev_arbiter he hdecFormat hdec, arbiterRaises_of_format (.inr (decoderOp_format s)), Bool.or_false]
  rcases hparts with ⟨hsend, harb, hcmd⟩ | ⟨-, hcmd, harb⟩
  · rw [runOps_commandOp_ev he hcmd, exec_ev_arbiter he (by simp [Instr.format]) harb, hclear, hsend]
    rfl
  · have hsame : SameArbiter s u := (beginCycle_sameAgents s).1.trans (runOps_commandOp_sameAgents hcmd).1
    rw [exec_ev_arbiter he harbFormat harb, runOps_commandOp_ev he hcmd, hclear, Bool.false_or,
      arbiterRaises_congr hsame (hasRoom_after_command hcmd)]

theorem hasRoom_eq_true_iff (s : State) : hasRoom s = true ↔ s.queue.length < s.cfg.txqDepth := decide_eq_true_iff

theorem hasRoom_eq_false_iff (s : State) : hasRoom s = false ↔ s.cfg.txqDepth ≤ s.queue.length := by
  rw [hasRoom, decide_eq_false_iff_not, not_lt]

/-- When the arbiter raises which of these events (R186 to R191, R193, R226). -/
theorem arbiterRaises_arbiterOp {s : State} (hr : (inputsNow s).rst = false) (e : Event) :
    arbiterRaises (arbiterOp s) s e = true ↔
      (Event.idleTimeout = e ∧ Acts s ∧ s.arbState = .classify ∧ s.arbExpect = 0 ∧ s.rxPresent = false) ∨
      (Event.retry = e ∧ Acts s ∧ s.arbState = .classify ∧ s.arbExpect ≠ 0 ∧ s.rxPresent = false) ∨
      (Event.unexpected = e ∧ Acts s ∧ s.arbState = .classify ∧ s.arbExpect ≠ 0 ∧ s.rxPresent = true ∧
        s.arbExpect.getLsbD (msgType s.rx.p).toNat = false) ∨
      (Event.matched = e ∧ Acts s ∧ s.arbState = .classify ∧ s.arbExpect ≠ 0 ∧ s.rxPresent = true ∧
        s.arbExpect.getLsbD (msgType s.rx.p).toNat = true) ∨
      (Event.ackQueued = e ∧ Acts s ∧ s.arbState = .classify ∧ s.arbExpect = 0 ∧ s.rxPresent = true ∧
        ackRequired s.cfg (msgType s.rx.p) = true ∧ s.queue.length < s.cfg.txqDepth) ∨
      (Event.csumErr = e ∧ Acts s ∧ s.arbState = .classify ∧ s.rxPresent = true ∧ s.rx.ok = false) ∨
      (Event.dispatched = e ∧ Acts s ∧ s.arbState = .dispatch ∧ (inputsNow s).msgReady = true) ∨
      (Event.txqOvf = e ∧ Acts s ∧ s.arbState = .classify ∧ s.cfg.txqDepth ≤ s.queue.length ∧
        ((s.arbExpect ≠ 0 ∧ s.rxPresent = false) ∨
         (s.arbExpect ≠ 0 ∧ s.rxPresent = true ∧ s.arbExpect.getLsbD (msgType s.rx.p).toNat = false) ∨
         (s.arbExpect = 0 ∧ s.rxPresent = true ∧ ackRequired s.cfg (msgType s.rx.p) = true))) := by
  have hcases := arbiterOp_cases s
  by_cases hcls : s.arbState = .classify
  · simp only [hcls, reduceCtorEq, ne_eq, not_false_eq_true, true_and, false_and, and_false, or_false, false_or,
      BitVec.ofNat_eq_ofNat] at hcases
    rcases hcases with ⟨hop, hstop⟩ | ⟨hstop, hrow⟩
    · simp [hop, arbiterRaises, hstop]
    have hacts : Acts s := ⟨hr, hstop⟩
    rcases hrow with ⟨hop, hexp, hrx⟩ | ⟨hop, hexp, hrx⟩ | ⟨hop, hexp, hrx⟩ | ⟨hop, hexp, hrx, hmiss⟩ |
        ⟨hop, hexp, hrx, hhit⟩
    · cases hack : ackRequired s.cfg (msgType s.rx.p) <;>
        simp [hop, arbiterRaises, ackRaises, routeRaises, pushRaises, hasRoom_eq_true_iff, hasRoom_eq_false_iff,
          eq_true hacts, hcls, hexp, hrx, hack, or_assoc, or_comm]
    · simp [hop, arbiterRaises, routeRaises, eq_true hacts, hcls, hexp, hrx]
    · simp [hop, arbiterRaises, routeRaises, pushRaises, hasRoom_eq_false_iff, eq_true hacts, hcls, hexp, hrx, or_comm]
    · simp [hop, arbiterRaises, routeRaises, pushRaises, hasRoom_eq_false_iff, eq_true hacts, hcls, hexp, hrx, hmiss,
        or_comm, or_left_comm]
    · simp [hop, arbiterRaises, routeRaises, eq_true hacts, hcls, hexp, hrx, hhit]
  · by_cases hdisp : s.arbState = .dispatch
    · simp only [hdisp, reduceCtorEq, ne_eq, not_false_eq_true, true_and, false_and, and_false, or_false, false_or]
        at hcases
      rcases hcases with ⟨hop, hstop⟩ | ⟨hstop, ⟨hop, hready⟩ | ⟨hop, hready⟩⟩
      · simp [hop, arbiterRaises, hstop, hcls]
      · have hacts : Acts s := ⟨hr, hstop⟩
        simp [hop, arbiterRaises, eq_true hacts, hdisp, hready]
      · simp [hop, arbiterRaises, hcls, hready]
    · simp only [hcls, hdisp, false_and, and_false, or_false] at hcases
      rcases hcases with h | h | ⟨-, h | h | h | h | h | h | h | h | h | h | h | h⟩ <;>
        simp [h.1, arbiterRaises, hcls, hdisp]

/-- Settles O47: each bit is an event of the arbiter's operation, and the operation map says when that one is
selected. -/
theorem arbiterEventsExactly : Obligations.ArbiterEventsExactly := by
  intro s t hr h
  have key (e : Event) (he : ¬ IsPortEvent e) := (Bool.eq_iff_iff.1 (step_ev_arbiter he hr h)).trans
    (arbiterRaises_arbiterOp hr e)
  refine ⟨(key .idleTimeout ?_).trans ?_, (key .retry ?_).trans ?_, (key .unexpected ?_).trans ?_,
    (key .matched ?_).trans ?_, (key .ackQueued ?_).trans ?_, (key .csumErr ?_).trans ?_,
    (key .dispatched ?_).trans ?_, (key .txqOvf ?_).trans ?_⟩
  all_goals simp [IsPortEvent]

end Sys2Proof.Proofs.ArbiterEvents
end

section
/-! PROOFS. A wait that no message ends: T_REPLY cycles, then CLASSIFY with nothing received (R183, R185, R268). -/

namespace Sys2Proof.Proofs.WaitTimeout

open Sys2Proof Sys2Proof.Machine Sys2Proof.Proofs.Scope Sys2Proof.Proofs.Unwritten Sys2Proof.Proofs.Runs
  Sys2Proof.Proofs.Reception Sys2Proof.Proofs.OfferTimeout Sys2Proof.Proofs.ArbiterOperations

theorem step_waitTick {s t : State} (hacts : Acts s) (hst : s.arbState = .wait) (hoffer : s.decState ≠ .offer)
    (htimer : s.arbTimer + 1 ≠ s.cfg.tReply) (h : step s = .next t) :
    t.arbState = .wait ∧ t.arbTimer = s.arbTimer + 1 := by
  obtain ⟨hr, hstop⟩ := hacts
  have hsame := step_arbiter hr h (arbiterOp_eq_waitTick hstop hst hoffer htimer) rfl
  exact ⟨hsame.arbState.trans hst, hsame.arbTimer⟩

theorem step_waitTimeout {s t : State} (hacts : Acts s) (hst : s.arbState = .wait) (hoffer : s.decState ≠ .offer)
    (htimer : s.arbTimer + 1 = s.cfg.tReply) (h : step s = .next t) :
    t.arbState = .classify ∧ t.rxPresent = false := by
  obtain ⟨hr, hstop⟩ := hacts
  have hsame := step_arbiter hr h (arbiterOp_eq_waitTimeout hstop hst hoffer htimer) rfl
  exact ⟨hsame.arbState, hsame.rxPresent⟩

/-- The arbiter acts in the cycle after a run, where that cycle has neither reset nor stop. -/
theorem acts_of_runsTo {n : Nat} {s t : State} (h : RunsTo n s t)
    (hin : (inputAt s n).rst = false ∧ (inputAt s n).ctrlStop = false) : Acts t := by
  rwa [Acts, inputsNow_of_runsTo h]

/-- While cycles are left on the timer and no message is offered, the wait goes on and the timer counts its cycles. -/
theorem exists_runsTo_wait {m n : Nat} {s : State} (hst : s.arbState = .wait) (hn : n ≤ m)
    (htimer : s.arbTimer + n < s.cfg.tReply)
    (hin : ∀ i, i < m → (inputAt s i).rst = false ∧ (inputAt s i).ctrlStop = false)
    (hdec : ∀ i t, i < m → RunsTo i s t → t.decState ≠ .offer) :
    ∃ t, RunsTo n s t ∧ t.arbState = .wait ∧ t.arbTimer = s.arbTimer + n := by
  induction n with
  | zero => exact ⟨s, runsTo_zero s, hst, rfl⟩
  | succ n ih =>
    obtain ⟨t, hto, ht, hcount⟩ := ih (by omega) (by omega)
    obtain ⟨u, hu⟩ := exists_step_next t
    have hlast : t.arbTimer + 1 ≠ t.cfg.tReply := by
      rw [hcount, (runsTo_surroundings hto).1]
      omega
    obtain ⟨hwait, hnext⟩ := step_waitTick (acts_of_runsTo hto (hin n hn)) ht (hdec n t hn hto) hlast hu
    exact ⟨u, runsTo_trans hto (runsTo_one hu), hwait, by rw [hnext, hcount, Nat.add_assoc]⟩

/-- Settles O49: the timer counts up to its last value, at which the next cycle ends the wait. -/
theorem waitTimesOutExactly : Obligations.WaitTimesOutExactly := by
  intro s hst hzero hpos hin hdec
  have hwaits : ∀ i, i < s.cfg.tReply → ∃ t, RunsTo i s t ∧ t.arbState = .wait ∧ t.arbTimer = i := by
    intro i hi
    simpa [hzero] using exists_runsTo_wait hst hi.le (by omega) hin hdec
  have hlast : s.cfg.tReply - 1 < s.cfg.tReply := by omega
  obtain ⟨t, hto, ht, hcount⟩ := hwaits _ hlast
  obtain ⟨u, hu⟩ := exists_step_next t
  have htimer : t.arbTimer + 1 = t.cfg.tReply := by
    rw [hcount, (runsTo_surroundings hto).1, Nat.sub_add_cancel hpos]
  have hend := step_waitTimeout (acts_of_runsTo hto (hin _ hlast)) ht (hdec _ t hlast hto) htimer hu
  refine ⟨hwaits, u, ?_, hend⟩
  have hfull := runsTo_trans hto (runsTo_one hu)
  rwa [Nat.sub_add_cancel hpos] at hfull

end Sys2Proof.Proofs.WaitTimeout
end

section
/-! PROOFS. Runs in parts: what a run's first cycles leave to the rest, what the transmit port carries over both, and
the wait's timer as a witness of where the arbiter was. -/

namespace Sys2Proof.Proofs.RunParts

open Sys2Proof Sys2Proof.Machine Sys2Proof.Proofs.Scope Sys2Proof.Proofs.Agents Sys2Proof.Proofs.Unwritten
  Sys2Proof.Proofs.Runs Sys2Proof.Proofs.OfferTimeout Sys2Proof.Proofs.Transmitter

/-! ## The parts of a run -/

theorem runsTo_unique {n : Nat} {s t u : State} (ht : RunsTo n s t) (hu : RunsTo n s u) : t = u :=
  Host.Outcome.next.inj (ht.symm.trans hu)

theorem exists_step_of_runsTo_succ {n : Nat} {s t : State} (h : RunsTo (n + 1) s t) :
    ∃ u, step s = .next u ∧ RunsTo n u t := by
  obtain ⟨u, hu⟩ := exists_step_next s
  have hcore : core.step s = .next u := hu
  simp only [RunsTo, Host.Core.run, hcore] at h
  exact ⟨u, hu, h⟩

/-- The rest of a run starts where its first cycles end. -/
theorem runsTo_rest {m n : Nat} {s t u : State} (h : RunsTo (m + n) s t) (hu : RunsTo m s u) : RunsTo n u t := by
  induction m generalizing s with
  | zero =>
    cases hu
    rwa [Nat.zero_add] at h
  | succ m ih =>
    rw [Nat.succ_add] at h
    obtain ⟨v, hv, hrest⟩ := exists_step_of_runsTo_succ h
    obtain ⟨v', hv', hrest'⟩ := exists_step_of_runsTo_succ hu
    cases hv.symm.trans hv'
    exact ih hrest hrest'

theorem inputAt_of_runsTo {m : Nat} {s t : State} (h : RunsTo m s t) (i : Nat) : inputAt t i = inputAt s (m + i) := by
  rw [inputAt, inputAt, (runsTo_surroundings h).2, InputStream.drop_add]

/-! ## The inputs of several cycles -/

/-- The inputs of the coming `n` cycles are all of one kind. -/
def During (C : Inputs → Prop) (n : Nat) (s : State) : Prop := ∀ i, i < n → C (inputAt s i)

theorem During.take {C : Inputs → Prop} {m n : Nat} {s : State} (h : During C (m + n) s) : During C m s :=
  fun i hi => h i (Nat.lt_add_right n hi)

theorem During.after {C : Inputs → Prop} {m n : Nat} {s t : State} (h : During C (m + n) s) (hrun : RunsTo m s t) :
    During C n t := by
  intro i hi
  rw [inputAt_of_runsTo hrun]
  exact h _ (Nat.add_lt_add_left hi m)

theorem During.imp {C D : Inputs → Prop} {n : Nat} {s : State} (h : During C n s) (hCD : ∀ x, C x → D x) :
    During D n s := fun i hi => hCD _ (h i hi)

/-! ## The transmit port -/

theorem txTransfer_of_not_tx {s : State} (htx : s.arbState ≠ .tx) : txTransfer s = none := by
  simp [txTransfer, txValid, htx]

theorem txTrace_add {m : Nat} {s t : State} (h : RunsTo m s t) (n : Nat) :
    txTrace (m + n) s = txTrace m s ++ txTrace n t := by
  induction m generalizing s with
  | zero =>
    cases h
    rw [Nat.zero_add]
    rfl
  | succ m ih =>
    obtain ⟨u, hu, hrest⟩ := exists_step_of_runsTo_succ h
    rw [Nat.succ_add, txTrace_succ_of_step hu, txTrace_succ_of_step hu, ih hrest, List.append_assoc]

/-- Outside TX the port carries nothing. -/
theorem txTrace_eq_nil {n : Nat} {s : State} (htx : ∀ i u, i < n → RunsTo i s u → u.arbState ≠ .tx) :
    txTrace n s = [] := by
  induction n generalizing s with
  | zero => rfl
  | succ n ih =>
    obtain ⟨u, hu⟩ := exists_step_next s
    rw [txTrace_succ_of_step hu, txTransfer_of_not_tx (htx 0 s n.succ_pos (runsTo_zero s)),
      ih fun i v hi hv => htx (i + 1) v (Nat.succ_lt_succ hi) (runsTo_succ_of_step hu hv)]
    rfl

/-! ## The wait's timer -/

/-- Only a cycle of WAIT moves the timer on, and by one (R35, R183). -/
theorem step_arbTimer {s t : State} (h : step s = .next t) :
    t.arbTimer ≤ s.arbTimer ∨ (s.arbState = .wait ∧ t.arbTimer = s.arbTimer + 1) := by
  cases hr : (inputsNow s).rst with
  | true =>
    rw [step_of_reset hr] at h
    cases h
    exact .inl (Nat.zero_le _)
  | false =>
    obtain ⟨a, -, ha, hat, -⟩ := step_effects hr h
    rw [hat.arbTimer]
    cases ha with
    | waitTick hst => exact .inr ⟨hst, rfl⟩
    | skip | empty | txLast => exact .inl (Nat.zero_le _)
    | classify u k _ hu => exact .inl (by rw [route_eq]; exact hu.arbTimer.le)
    | halted | stop | start | idle | send | txError | txByte | txStall | waitRecv | waitTimeout | dispatchDone
    | dispatchHold => exact .inl le_rfl

theorem runsTo_arbTimer_le {n : Nat} {s t : State} (h : RunsTo n s t) : t.arbTimer ≤ s.arbTimer + n := by
  induction n generalizing s with
  | zero =>
    cases h
    exact le_rfl
  | succ n ih =>
    obtain ⟨u, hu, hrest⟩ := exists_step_of_runsTo_succ h
    have hle := ih hrest
    rcases step_arbTimer hu with hstep | ⟨-, hstep⟩ <;> omega

/-- A run over which the timer has counted every cycle was in WAIT in each of them. -/
theorem wait_of_timer_counts {n : Nat} {s t : State} (h : RunsTo n s t) (hcount : t.arbTimer = s.arbTimer + n)
    {i : Nat} {u : State} (hi : i < n) (hu : RunsTo i s u) : u.arbState = .wait := by
  obtain ⟨k, rfl⟩ : ∃ k, n = i + (k + 1) := ⟨n - i - 1, by omega⟩
  obtain ⟨v, hv, hrest⟩ := exists_step_of_runsTo_succ (runsTo_rest h hu)
  have hbefore := runsTo_arbTimer_le hu
  have hafter := runsTo_arbTimer_le hrest
  rcases step_arbTimer hv with hstep | ⟨hst, -⟩
  · omega
  · exact hst

end Sys2Proof.Proofs.RunParts
end

section
/-! PROOFS. Whole link cycles (R182, R188, R189, R194, R297), composed of their parts: SELECT, the frame in TX, the
wait, the classification, the dispatch. -/

namespace Sys2Proof.Proofs.LinkCycles

open Sys2Proof Sys2Proof.Machine Sys2Proof.Proofs.Scope Sys2Proof.Proofs.Agents Sys2Proof.Proofs.Ranges
  Sys2Proof.Proofs.Unwritten Sys2Proof.Proofs.Runs Sys2Proof.Proofs.QueueOrder Sys2Proof.Proofs.Handoff
  Sys2Proof.Proofs.Reception Sys2Proof.Proofs.DecoderOperations Sys2Proof.Proofs.OfferTimeout
  Sys2Proof.Proofs.Transmitter Sys2Proof.Proofs.ArbiterOperations Sys2Proof.Proofs.WaitTimeout
  Sys2Proof.Proofs.RunParts

/-! ## The inputs of a cycle -/

/-- Neither reset nor a command. -/
def NoCommand (x : Inputs) : Prop := x.rst = false ∧ x.cmdValid = false

/-- Neither reset, stop, a command nor a byte: what `NothingOffered` says of each cycle. -/
def Silent (x : Inputs) : Prop :=
  x.rst = false ∧ x.ctrlStop = false ∧ x.cmdValid = false ∧ x.rxValid = false

/-- What `TransportAccepts` says of each cycle. -/
def Accepting (x : Inputs) : Prop := x.txReady = true ∧ x.txError = false

theorem Silent.rst {x : Inputs} (h : Silent x) : x.rst = false := h.1

theorem Silent.ctrlStop {x : Inputs} (h : Silent x) : x.ctrlStop = false := h.2.1

theorem Silent.rxValid {x : Inputs} (h : Silent x) : x.rxValid = false := h.2.2.2

theorem Silent.noCommand {x : Inputs} (h : Silent x) : NoCommand x :=
  have ⟨hr, _, hc, _⟩ := h
  ⟨hr, hc⟩

theorem Accepting.txReady {x : Inputs} (h : Accepting x) : x.txReady = true := h.1

theorem Accepting.txError {x : Inputs} (h : Accepting x) : x.txError = false := h.2

/-! ## One cycle -/

/-- A decoder in HUNT that is offered no byte stays there, whatever else comes. -/
theorem step_keeps_hunt {s t : State} (hd : s.decState = .hunt) (hv : (inputsNow s).rxValid = false)
    (h : step s = .next t) : t.decState = .hunt := by
  cases hr : (inputsNow s).rst with
  | true =>
    rw [step_of_reset hr] at h
    cases h
    rfl
  | false =>
    have hop : decoderOp s = .decDisabled ∨ decoderOp s = .decIdle := by
      have hcases := decoderOp_cases s
      simp only [hd, hv, reduceCtorEq, Bool.false_eq_true, false_and, and_false, or_false, false_or] at hcases
      rcases hcases with ⟨hop, -⟩ | ⟨-, hop, -⟩
      · exact .inl hop
      · exact .inr hop
    rcases hop with hop | hop
    · exact (step_decoder hr h hop rfl).decState
    · exact (step_decoder hr h hop rfl).decState.trans hd

theorem hunt_of_runsTo {n : Nat} {s t : State} (hd : s.decState = .hunt) (hin : During Silent n s)
    (h : RunsTo n s t) : t.decState = .hunt := by
  obtain ⟨u, hu, hhunt⟩ := exists_runsTo_of_invariant (C := Silent) (P := (·.decState = .hunt))
    (fun _ _ hv hx => step_keeps_hunt hv hx.rxValid) hd hin
  exact runsTo_unique hu h ▸ hhunt

/-- A silent cycle of a running link outside TX, with the decoder in HUNT, is the arbiter's operation alone. -/
theorem step_of_silent {s t : State} {i : Instr} (hin : Silent (inputsNow s)) (hd : s.decState = .hunt)
    (hrun : s.arbState.running = true) (htx : s.arbState ≠ .tx) (hop : arbiterOp s = i)
    (hexec : exec i (beginCycle s) = .next t) : step s = .next t := by
  subst hop
  obtain ⟨hr, hstop, hc, hv⟩ := hin
  have hbyte : ((inputsNow s).rxError = true ∧ s.decState = .hunt) ∨
      ((inputsNow s).rxError = false ∧ (inputsNow s).rxValid = false) := by
    cases (inputsNow s).rxError with
    | true => exact .inl ⟨rfl, hd⟩
    | false => exact .inr ⟨rfl, hv⟩
  rw [step_of_no_command hr hc, runOps_cons_next hexec,
    decoderOp_eq_idle ⟨hr, hrun, hstop, fun h => absurd h htx⟩ (by simp [hd]) hbyte]
  rfl

/-! ## The command in hand (R31, R32, R33, R37) -/

/-- The command that a link cycle is about: `m` in `cur`, `e` the expected set, `q` the queue behind it, no skip. -/
structure InHand (m : TxMsg) (e : TypeSet) (q : List TxMsg) (s : State) : Prop where
  cur : s.cur = m
  arbExpect : s.arbExpect = e
  queue : s.queue = q
  arbSkip : s.arbSkip = false

section inHand

variable {m : TxMsg} {e : TypeSet} {q : List TxMsg} {s t : State}

theorem InHand.congr (hs : InHand m e q s) (h : SameArbiter s t) (hq : t.queue = s.queue) : InHand m e q t where
  cur := h.cur.trans hs.cur
  arbExpect := h.arbExpect.trans hs.arbExpect
  queue := hq.trans hs.queue
  arbSkip := h.arbSkip.trans hs.arbSkip

/-- The operations that TX and WAIT leave to the arbiter. -/
theorem arbiterOp_of_tx_or_wait (hst : s.arbState = .tx ∨ s.arbState = .wait) :
    (arbiterOp s).format = .tx ∨ arbiterOp s = .ctlStop ∨ arbiterOp s = .arbWaitRecv ∨
      arbiterOp s = .arbWaitTimeout ∨ arbiterOp s = .arbWaitTick := by
  have hcases := arbiterOp_cases s
  rcases hst with hst | hst <;>
    simp only [hst, reduceCtorEq, ne_eq, not_false_eq_true, true_and, false_and, and_false, or_false, false_or]
      at hcases
  · rcases hcases with ⟨hop, -⟩ | ⟨-, ⟨hop, -⟩ | ⟨hop, -⟩ | ⟨hop, -⟩ | ⟨hop, -⟩⟩ <;> simp [hop, Instr.format]
  · rcases hcases with ⟨hop, -⟩ | ⟨-, ⟨hop, -⟩ | ⟨hop, -⟩ | ⟨hop, -⟩⟩ <;> simp [hop]

theorem exec_inHand {i : Instr} (hi : i.format = .tx ∨ i = .ctlStop ∨ i = .arbWaitRecv ∨ i = .arbWaitTimeout ∨
    i = .arbWaitTick) (hs : InHand m e q s) (h : exec i s = .next t) : InHand m e q t := by
  obtain ⟨hcur, hexp, hqueue, hskip⟩ := hs
  rcases hi with hf | rfl | rfl | rfl | rfl
  · cases i <;> cases hf <;> cases h <;> exact ⟨hcur, hexp, hqueue, hskip⟩
  all_goals
    cases h
    exact ⟨hcur, hexp, hqueue, hskip⟩

/-- A cycle of TX or WAIT without a command leaves the command in hand. -/
theorem step_inHand (hst : s.arbState = .tx ∨ s.arbState = .wait) (hin : NoCommand (inputsNow s))
    (hs : InHand m e q s) (h : step s = .next t) : InHand m e q t := by
  obtain ⟨hr, hc⟩ := hin
  rw [step_of_no_command hr hc] at h
  obtain ⟨u, harb, hdec⟩ := runOps_append_next (is := [arbiterOp s]) h
  have hbegin : InHand m e q (beginCycle s) := hs.congr (beginCycle_sameAgents s).1 rfl
  have hu : InHand m e q u := exec_inHand (arbiterOp_of_tx_or_wait hst) hbegin (runOps_single harb)
  exact hu.congr (exec_decoder_sameArbiter (decoderOp_format s) (runOps_single hdec))
    (exec_decoderOp_queue (runOps_single hdec))

theorem inHand_of_runsTo {n : Nat} (hst : ∀ i u, i < n → RunsTo i s u → u.arbState = .tx ∨ u.arbState = .wait)
    (hin : During NoCommand n s) (hs : InHand m e q s) (h : RunsTo n s t) : InHand m e q t := by
  induction n generalizing s with
  | zero =>
    cases h
    exact hs
  | succ n ih =>
    obtain ⟨u, hu, hrest⟩ := exists_step_of_runsTo_succ h
    rw [Nat.add_comm] at hin
    exact ih (fun i v hi hv => hst (i + 1) v (Nat.succ_lt_succ hi) (runsTo_succ_of_step hu hv))
      (hin.after (runsTo_one hu)) (step_inHand (hst 0 s n.succ_pos (runsTo_zero s)) (hin 0 (by omega)) hs hu) hrest

end inHand

/-! ## A part of a link cycle -/

/-- `n` cycles take `s` to `t`, where the decoder is in HUNT, and the transmit port carries `bs` in them. -/
structure Part (n : Nat) (bs : List Byte) (s t : State) : Prop where
  run : RunsTo n s t
  trace : txTrace n s = bs
  hunt : t.decState = .hunt

theorem Part.trans {m n : Nat} {bs cs : List Byte} {s t u : State} (h : Part m bs s t) (h' : Part n cs t u) :
    Part (m + n) (bs ++ cs) s u where
  run := runsTo_trans h.run h'.run
  trace := by rw [txTrace_add h.run, h.trace, h'.trace]
  hunt := h'.hunt

theorem Part.cfg {n : Nat} {bs : List Byte} {s t : State} (h : Part n bs s t) : t.cfg = s.cfg :=
  (runsTo_surroundings h.run).1

/-- A silent cycle of a running link outside TX. -/
theorem Part.of_silent {s t : State} {i : Instr} (hin : Silent (inputsNow s)) (hd : s.decState = .hunt)
    (hrun : s.arbState.running = true) (htx : s.arbState ≠ .tx) (hop : arbiterOp s = i)
    (hexec : exec i (beginCycle s) = .next t) : Part 1 [] s t :=
  have hstep := step_of_silent hin hd hrun htx hop hexec
  { run := runsTo_one hstep
    trace := by
      rw [txTrace_succ_of_step hstep, txTransfer_of_not_tx htx]
      rfl
    hunt := step_keeps_hunt hd hin.rxValid hstep }

section parts

variable {m : TxMsg} {e : TypeSet} {q : List TxMsg} {s : State}

/-- ARB.SELECT_SEND (R180). -/
theorem exists_part_send (hin : Silent (inputsNow s)) (hd : s.decState = .hunt) (hst : s.arbState = .select)
    (hskip : s.arbSkip = false) (hq : s.queue = m :: q) :
    ∃ t, Part 1 [] s t ∧ t.arbState = .tx ∧ t.txPos = 0 ∧ InHand m m.e q t :=
  have hop := arbiterOp_eq_send hin.ctrlStop hst hskip (by simp [hq])
  ⟨_, .of_silent hin hd (by rw [hst]; rfl) (by simp [hst]) hop (exec_send (s := beginCycle s) hq), rfl, rfl,
    rfl, rfl, rfl, hskip⟩

/-- ARB.SELECT_SKIP (R182). -/
theorem exists_part_skip (hin : Silent (inputsNow s)) (hd : s.decState = .hunt) (hst : s.arbState = .select)
    (hskip : s.arbSkip = true) :
    ∃ t, Part 1 [] s t ∧ t.arbState = .wait ∧ t.arbTimer = 0 ∧ InHand s.cur 0 s.queue t :=
  have hop := arbiterOp_eq_selectSkip hin.ctrlStop hst hskip
  ⟨_, .of_silent hin hd (by rw [hst]; rfl) (by simp [hst]) hop rfl, rfl, rfl, rfl, rfl, rfl, rfl⟩

theorem readyCount_of_accepting {n : Nat} (hin : During Accepting n s) : readyCount s n = n := by
  induction n with
  | zero => rfl
  | succ n ih => rw [readyCount, ih hin.take, if_pos (hin n n.lt_succ_self).txReady]

/-- TX with a transport that accepts every byte: the whole frame, then WAIT (R162, R163, R166). -/
theorem exists_part_frame {w : Nat} (hw : w = (encodeFrame s.cfg.checksumAlg m).length) (hwf : m.wf = true)
    (hin : During Silent w s) (hacc : During Accepting w s) (hd : s.decState = .hunt) (hst : s.arbState = .tx)
    (hzero : s.txPos = 0) (hs : InHand m e q s) :
    ∃ t, Part w (encodeFrame s.cfg.checksumAlg m) s t ∧ t.arbState = .wait ∧ t.arbTimer = 0 ∧ InHand m e q t := by
  have hframe : curFrame s = encodeFrame s.cfg.checksumAlg m := by rw [curFrame, hs.cur]
  have hquiet : Undisturbed w s := fun i hi => ⟨(hin i hi).rst, (hin i hi).ctrlStop, (hacc i hi).txError⟩
  have hcount {i : Nat} (hi : i ≤ w) : readyCount s i = i := readyCount_of_accepting fun j hj => hacc j (by omega)
  have hpart {i : Nat} (hi : i ≤ w) := frameIntegrity i s hst hzero (hs.cur ▸ hwf) fun j hj => hquiet j (by omega)
  have htx {i : Nat} {u : State} (hi : i < w) (hu : RunsTo i s u) : u.arbState = .tx := by
    obtain ⟨-, v, hv, hvtx, -⟩ := (hpart hi.le).1 (by rw [hcount hi.le, hframe, ← hw]; exact hi)
    exact runsTo_unique hv hu ▸ hvtx
  obtain ⟨n, rfl⟩ : ∃ n, w = n + 1 := ⟨w - 1, by have := curFrame_length_pos s; rw [hframe] at this; omega⟩
  obtain ⟨htrace, t, ht, hwait, htimer, -⟩ := (hpart n.le_succ).2 (by rw [hcount le_rfl, hframe, hw])
    (by rw [hcount n.le_succ, hframe, ← hw]; exact n.lt_succ_self) hquiet
  exact ⟨t, ⟨ht, htrace.trans hframe, hunt_of_runsTo hd hin ht⟩, hwait, htimer,
    inHand_of_runsTo (fun i u hi hu => .inl (htx hi hu)) (hin.imp fun _ => Silent.noCommand) hs ht⟩

/-- A wait in which nothing comes (R183, R185). -/
theorem exists_part_timeout {n : Nat} (hn : n = s.cfg.tReply) (hpos : 1 ≤ n) (hin : During Silent n s)
    (hd : s.decState = .hunt) (hst : s.arbState = .wait) (hzero : s.arbTimer = 0) (hs : InHand m e q s) :
    ∃ t, Part n [] s t ∧ t.arbState = .classify ∧ t.rxPresent = false ∧ InHand m e q t := by
  subst hn
  obtain ⟨hwaits, t, ht, hcls, hrx⟩ := waitTimesOutExactly s hst hzero hpos
    (fun i hi => ⟨(hin i hi).rst, (hin i hi).ctrlStop⟩)
    (fun i u hi hu => by simp [hunt_of_runsTo hd (fun j hj => hin j (by omega)) hu])
  have hwait {i : Nat} {u : State} (hi : i < s.cfg.tReply) (hu : RunsTo i s u) : u.arbState = .wait := by
    obtain ⟨v, hv, hvwait, -⟩ := hwaits i hi
    exact runsTo_unique hv hu ▸ hvwait
  exact ⟨t, ⟨ht, txTrace_eq_nil fun i u hi hu => by simp [hwait hi hu], hunt_of_runsTo hd hin ht⟩, hcls, hrx,
    inHand_of_runsTo (fun i u hi hu => .inr (hwait hi hu)) (hin.imp fun _ => Silent.noCommand) hs ht⟩

/-- ARB.CLS_RETRY with room in the queue (R188). -/
theorem exists_part_retry (hin : Silent (inputsNow s)) (hd : s.decState = .hunt) (hst : s.arbState = .classify)
    (hrx : s.rxPresent = false) (he : e ≠ 0) (hs : InHand m e q s) (hroom : q.length < s.cfg.txqDepth) :
    ∃ t, Part 1 [] s t ∧ t.arbState = .select ∧ t.queue = m :: q ∧ t.arbSkip = false ∧ t.ev = 0x0080 := by
  have hop := arbiterOp_eq_retry hin.ctrlStop hst (hs.arbExpect ▸ he) hrx
  have hexec := exec_retry_of_room (s := beginCycle s) hrx (hs.queue.symm ▸ hroom)
  refine ⟨_, .of_silent hin hd (by rw [hst]; rfl) (by simp [hst]) hop hexec, rfl, ?_, hs.arbSkip, BitVec.zero_or⟩
  exact congrArg₂ _ hs.cur hs.queue

/-- ARB.CLS_IDLE (R186). -/
theorem exists_part_idle (hin : Silent (inputsNow s)) (hd : s.decState = .hunt) (hst : s.arbState = .classify)
    (hrx : s.rxPresent = false) (hs : InHand m 0 q s) :
    ∃ t, Part 1 [] s t ∧ t.arbState = .select ∧ InHand m 0 q t ∧ t.ev = 0x0040 := by
  have hop := arbiterOp_eq_clsIdle hin.ctrlStop hst hs.arbExpect hrx
  refine ⟨_, .of_silent hin hd (by rw [hst]; rfl) (by simp [hst]) hop (exec_clsIdle (s := beginCycle s) hrx), rfl, ?_,
    BitVec.zero_or⟩
  exact ⟨hs.cur, hs.arbExpect, hs.queue, hs.arbSkip⟩

/-- A frame offered from the first cycle of the wait on, and the hand-off in the cycle after its last byte (R65,
R184). -/
theorem exists_part_reply {r : TxMsg} {v : Nat} (hv : v = (encodeFrame s.cfg.checksumAlg r).length)
    (hwf : r.wf = true) (htime : v < s.cfg.tReply) (hoffered : Offered (encodeFrame s.cfg.checksumAlg r) s)
    (hlast : Silent (inputAt s v)) (hd : s.decState = .hunt) (hst : s.arbState = .wait) (hzero : s.arbTimer = 0)
    (hs : InHand m e q s) :
    ∃ t, Part (v + 1) [] s t ∧ t.arbState = .classify ∧ t.rxPresent = true ∧
      t.rx = { n := r.n, p := r.p, ok := true } ∧ InHand m e q t := by
  obtain ⟨u, hto, hu⟩ := takes_frame s.cfg.checksumAlg hwf s hd hst (by omega) hoffered
  rw [← hv] at hto
  have hwait (i : Nat) (x : State) (hi : i < v + 1) (hx : RunsTo i s x) : x.arbState = .wait := by
    rcases Nat.lt_succ_iff_lt_or_eq.1 hi with hlt | rfl
    · exact wait_of_timer_counts hto.run hto.arbTimer hlt hx
    · exact runsTo_unique hto.run hx ▸ hto.arbState
  have hnoCommand : During NoCommand (v + 1) s := by
    intro i hi
    rcases Nat.lt_succ_iff_lt_or_eq.1 hi with hlt | rfl
    · have hbyte := hoffered i _ (List.getElem?_eq_getElem (hv ▸ hlt))
      exact ⟨hbyte.rst, hbyte.cmdValid⟩
    · exact hlast.noCommand
  rw [← inputsNow_of_runsTo hto.run] at hlast
  obtain ⟨hr, hstop, hc, -⟩ := hlast
  have hstep := step_handoff hr hstop hc hto.arbState hu.decState
  have hrun := runsTo_trans hto.run (runsTo_one hstep)
  have hheld : heldMessage u = { n := r.n, p := r.p, ok := true } := by
    rw [hu.held, hto.cfg, checkTrailer_trailer, BitVec.add_sub_cancel]
  exact ⟨_, ⟨hrun, txTrace_eq_nil fun i x hi hx => by simp [hwait i x hi hx], rfl⟩, rfl, rfl, hheld,
    inHand_of_runsTo (fun i x hi hx => .inr (hwait i x hi hx)) hnoCommand hs hrun⟩

/-- ARB.CLS_UNEXPECTED on a good message, with room in the queue (R189). -/
theorem exists_part_unexpected (hin : Silent (inputsNow s)) (hd : s.decState = .hunt) (hst : s.arbState = .classify)
    (hrx : s.rxPresent = true) (hok : s.rx.ok = true) (he : e ≠ 0)
    (hmiss : e.getLsbD (msgType s.rx.p).toNat = false) (hs : InHand m e q s) (hroom : q.length < s.cfg.txqDepth) :
    ∃ t, Part 1 [] s t ∧ t.arbState = .dispatch ∧ t.queue = m :: q ∧ t.arbSkip = true ∧ t.ev = 0x0100 := by
  have hop := arbiterOp_eq_unexpected hin.ctrlStop hst (hs.arbExpect ▸ he) hrx (hs.arbExpect ▸ hmiss)
  have hexec := exec_unexpected_of_room (s := beginCycle s) hrx (hs.queue.symm ▸ hroom)
  refine ⟨_, .of_silent hin hd (by rw [hst]; rfl) (by simp [hst]) hop hexec, if_pos hok, ?_, rfl, ?_⟩
  · exact congrArg₂ _ hs.cur hs.queue
  · exact BitVec.zero_or.trans (if_pos hok)

/-- ARB.DISPATCH_DONE (R193). -/
theorem exists_part_dispatch (hin : Silent (inputsNow s)) (hready : (inputsNow s).msgReady = true)
    (hd : s.decState = .hunt) (hst : s.arbState = .dispatch) :
    ∃ t, Part 1 [] s t ∧ t.arbState = .select ∧ t.queue = s.queue ∧ t.arbSkip = s.arbSkip :=
  ⟨_, .of_silent hin hd (by rw [hst]; rfl) (by simp [hst]) (arbiterOp_eq_dispatchDone hin.ctrlStop hst hready) rfl, rfl,
    rfl, rfl⟩

end parts

/-! ## Whole link cycles (R194) -/

section cycles

variable {m : TxMsg} {q : List TxMsg} {s : State}

/-- A skip cycle in which nothing comes. -/
theorem exists_part_skipCycle {n : Nat} (hn : n = s.cfg.tReply) (hpos : 1 ≤ n) (hin : During Silent (1 + n + 1) s)
    (hd : s.decState = .hunt) (hst : s.arbState = .select) (hskip : s.arbSkip = true) :
    ∃ t, Part (1 + n + 1) [] s t ∧ t.arbState = .select ∧ InHand s.cur 0 s.queue t ∧ t.ev = 0x0040 := by
  obtain ⟨s₁, h₁, hwait, htimer, hs₁⟩ := exists_part_skip (hin 0 (by omega)) hd hst hskip
  obtain ⟨s₂, h₂, hcls, hrx, hs₂⟩ := exists_part_timeout (hn.trans (by rw [h₁.cfg])) hpos (hin.take.after h₁.run)
    h₁.hunt hwait htimer hs₁
  have h₁₂ := h₁.trans h₂
  obtain ⟨t, h₃, hsel, ht, hev⟩ := exists_part_idle (hin.after h₁₂.run 0 Nat.one_pos) h₁₂.hunt hcls hrx hs₂
  exact ⟨t, h₁₂.trans h₃, hsel, ht, hev⟩

/-- Settles O53. -/
theorem skipLinkCycle : Obligations.SkipLinkCycle := by
  intro s hst hskip hd hpos hin
  obtain ⟨t, ht, hsel, hs, hev⟩ := exists_part_skipCycle rfl hpos hin hd hst hskip
  exact ⟨t, ht.run, hsel, hs.queue, hs.arbSkip, hs.arbExpect, hev, ht.trace⟩

/-- The start of a send cycle of the command `m`: it is at the head, and the queue will have room for it again. -/
structure AtHead (m : TxMsg) (q : List TxMsg) (s : State) : Prop where
  arbState : s.arbState = .select
  arbSkip : s.arbSkip = false
  decState : s.decState = .hunt
  queue : s.queue = m :: q
  room : s.queue.length ≤ s.cfg.txqDepth

theorem AtHead.length_lt (h : AtHead m q s) : q.length < s.cfg.txqDepth := by
  have hroom := h.room
  rw [h.queue, List.length_cons] at hroom
  omega

/-- The same command at the head of the same queue again. -/
theorem AtHead.again {n : Nat} {bs : List Byte} {t : State} (h : AtHead m q s) (hrun : Part n bs s t)
    (hst : t.arbState = .select) (hskip : t.arbSkip = false) (hq : t.queue = m :: q) : AtHead m q t where
  arbState := hst
  arbSkip := hskip
  decState := hrun.hunt
  queue := hq
  room := by rw [hq, hrun.cfg, ← h.queue]; exact h.room

/-- SELECT and TX of a send cycle. -/
theorem exists_part_sent {w : Nat} (hw : w = (encodeFrame s.cfg.checksumAlg m).length) (hwf : m.wf = true)
    (h : AtHead m q s) (hin : During Silent (1 + w) s) (hacc : During Accepting (1 + w) s) :
    ∃ t, Part (1 + w) (encodeFrame s.cfg.checksumAlg m) s t ∧ t.arbState = .wait ∧ t.arbTimer = 0 ∧
      InHand m m.e q t := by
  obtain ⟨s₁, h₁, htx, hzero, hs₁⟩ := exists_part_send (hin 0 (by omega)) h.decState h.arbState h.arbSkip h.queue
  rw [← h₁.cfg] at hw ⊢
  obtain ⟨t, h₂, hwait, htimer, ht⟩ := exists_part_frame hw hwf (hin.after h₁.run) (hacc.after h₁.run) h₁.hunt htx hzero
    hs₁
  exact ⟨t, h₁.trans h₂, hwait, htimer, ht⟩

/-- A send cycle in which nothing is received. -/
theorem exists_part_retryCycle {w n : Nat} (hw : w = (encodeFrame s.cfg.checksumAlg m).length)
    (hn : n = s.cfg.tReply) (hpos : 1 ≤ n) (hwf : m.wf = true) (he : m.e ≠ 0) (h : AtHead m q s)
    (hin : During Silent (1 + w + n + 1) s) (hacc : During Accepting (1 + w + n + 1) s) :
    ∃ t, Part (1 + w + n + 1) (encodeFrame s.cfg.checksumAlg m) s t ∧ AtHead m q t ∧ t.ev = 0x0080 := by
  obtain ⟨s₁, h₁, hwait, htimer, hs₁⟩ := exists_part_sent hw hwf h hin.take.take hacc.take.take
  obtain ⟨s₂, h₂, hcls, hrx, hs₂⟩ := exists_part_timeout (hn.trans (by rw [h₁.cfg])) hpos (hin.take.after h₁.run)
    h₁.hunt hwait htimer hs₁
  have h₁₂ := h₁.trans h₂
  obtain ⟨t, h₃, hsel, hq, hskip, hev⟩ := exists_part_retry (hin.after h₁₂.run 0 Nat.one_pos) h₁₂.hunt hcls hrx he hs₂
    (by rw [h₁₂.cfg]; exact h.length_lt)
  have hall := h₁₂.trans h₃
  rw [List.append_nil, List.append_nil] at hall
  exact ⟨t, hall, h.again hall hsel hskip hq, hev⟩

/-- Any number of them, one after the other (RETRY_FOREVER, R297). -/
theorem exists_part_retryCycles {w n : Nat} (hw : w = (encodeFrame s.cfg.checksumAlg m).length)
    (hn : n = s.cfg.tReply) (hpos : 1 ≤ n) (hwf : m.wf = true) (he : m.e ≠ 0) (h : AtHead m q s) (k : Nat)
    (hin : During Silent (k * (1 + w + n + 1)) s) (hacc : During Accepting (k * (1 + w + n + 1)) s) :
    ∃ t, Part (k * (1 + w + n + 1)) (List.replicate k (encodeFrame s.cfg.checksumAlg m)).flatten s t ∧
      AtHead m q t := by
  induction k with
  | zero =>
    rw [Nat.zero_mul]
    exact ⟨s, ⟨runsTo_zero s, rfl, h.decState⟩, h⟩
  | succ k ih =>
    rw [Nat.succ_mul] at hin hacc ⊢
    obtain ⟨s₁, h₁, hs₁⟩ := ih hin.take hacc.take
    have hcfg := h₁.cfg
    obtain ⟨t, h₂, ht, -⟩ := exists_part_retryCycle (hcfg.symm ▸ hw) (hcfg.symm ▸ hn) hpos hwf he hs₁
      (hin.after h₁.run) (hacc.after h₁.run)
    rw [hcfg] at h₂
    rw [List.replicate_succ', List.flatten_append, List.flatten_singleton]
    exact ⟨t, h₁.trans h₂, ht⟩

/-- A send cycle up to its classification, in which a good frame of a type outside the set is received. -/
theorem exists_part_unexpectedReply {r : TxMsg} {w v : Nat} (hw : w = (encodeFrame s.cfg.checksumAlg m).length)
    (hv : v = (encodeFrame s.cfg.checksumAlg r).length) (htime : v < s.cfg.tReply) (hwf : m.wf = true) (he : m.e ≠ 0)
    (hwfr : r.wf = true) (hmiss : m.e.getLsbD (msgType r.p).toNat = false) (h : AtHead m q s)
    (hin : During Silent (1 + w) s) (hacc : During Accepting (1 + w) s)
    (hoffered : ∀ i b, (encodeFrame s.cfg.checksumAlg r)[i]? = some b → Offers b (inputAt s (1 + w + i)))
    (hhandoff : Silent (inputAt s (1 + w + v))) (hcls : Silent (inputAt s (1 + w + (v + 1)))) :
    ∃ t, Part (1 + w + (v + 1) + 1) (encodeFrame s.cfg.checksumAlg m) s t ∧ t.arbState = .dispatch ∧
      t.queue = m :: q ∧ t.arbSkip = true ∧ t.ev = 0x0100 := by
  obtain ⟨s₁, h₁, hwait, htimer, hs₁⟩ := exists_part_sent hw hwf h hin hacc
  have hcfg := h₁.cfg
  simp only [← inputAt_of_runsTo h₁.run] at hoffered hhandoff
  obtain ⟨s₂, h₂, hst, hrx, hmsg, hs₂⟩ := exists_part_reply (hcfg.symm ▸ hv) hwfr (hcfg.symm ▸ htime)
    (hcfg.symm ▸ hoffered) hhandoff h₁.hunt hwait htimer hs₁
  have h₁₂ := h₁.trans h₂
  rw [← inputsNow_of_runsTo h₁₂.run] at hcls
  obtain ⟨t, h₃, hdisp, hq, hskip, hev⟩ := exists_part_unexpected hcls h₁₂.hunt hst hrx (by rw [hmsg]) he
    (by rwa [hmsg]) hs₂ (by rw [h₁₂.cfg]; exact h.length_lt)
  have hall := h₁₂.trans h₃
  rw [List.append_nil, List.append_nil] at hall
  exact ⟨t, hall, hdisp, hq, hskip, hev⟩

/-- The dispatch of an unexpected message, and the skip cycle after it. -/
theorem exists_part_afterUnexpected {n : Nat} (hn : n = s.cfg.tReply) (hpos : 1 ≤ n)
    (hin : During Silent (1 + (1 + n + 1)) s) (hready : (inputsNow s).msgReady = true) (hd : s.decState = .hunt)
    (hst : s.arbState = .dispatch) (hskip : s.arbSkip = true) :
    ∃ t, Part (1 + (1 + n + 1)) [] s t ∧ t.arbState = .select ∧ t.arbSkip = false ∧ t.queue = s.queue := by
  obtain ⟨s₁, h₁, hsel, hq, hs₁⟩ := exists_part_dispatch (hin 0 (by omega)) hready hd hst
  obtain ⟨t, h₂, hsel', ht, -⟩ := exists_part_skipCycle (hn.trans (by rw [h₁.cfg])) hpos (hin.after h₁.run) h₁.hunt hsel
    (hs₁.trans hskip)
  exact ⟨t, h₁.trans h₂, hsel', ht.arbSkip, ht.queue.trans hq⟩

end cycles

/-- Settles O52: a send cycle leads from the head of the queue back to it, alone or any number of times; with an
unexpected reply it takes the skip cycle as well. -/
theorem retryLinkCycle : Obligations.RetryLinkCycle := by
  refine ⟨?_, ?_, ?_⟩
  · intro s m q hst hskip hd hq hwf he hpos hroom hin hacc
    obtain ⟨t, ht, hs, hev⟩ := exists_part_retryCycle rfl rfl hpos hwf he ⟨hst, hskip, hd, hq, hroom⟩ hin hacc
    exact ⟨t, ht.run, hs.arbState, hs.queue, hs.arbSkip, hev, ht.trace⟩
  · intro k s m q hst hskip hd hq hwf he hpos hroom hin hacc
    obtain ⟨t, ht, hs⟩ := exists_part_retryCycles rfl rfl hpos hwf he ⟨hst, hskip, hd, hq, hroom⟩ k hin hacc
    exact ⟨t, ht.run, hs.arbState, hs.queue, hs.arbSkip, ht.trace⟩
  · intro s m r q w v n hst hskip hd hq hwf he hroom hwfr hmiss hw hv htime hn hquiet hacc hvalid hdata
    have hsilent (i : Nat) (hi : i < n) (hbyte : ¬ (1 + w ≤ i ∧ i < 1 + w + v)) : Silent (inputAt s i) := by
      obtain ⟨hr, hstop, hc, -⟩ := hquiet i hi
      exact ⟨hr, hstop, hc, (hvalid i hi).trans (decide_eq_false hbyte)⟩
    have hoffered (i : Nat) (b : Byte) (hi : (encodeFrame s.cfg.checksumAlg r)[i]? = some b) :
        Offers b (inputAt s (1 + w + i)) := by
      obtain ⟨hlt, -⟩ := List.getElem?_eq_some_iff.1 hi
      rw [← hv] at hlt
      obtain ⟨hr, hstop, hc, herr, -⟩ := hquiet (1 + w + i) (by omega)
      exact ⟨hr, hstop, hc, herr, (hvalid _ (by omega)).trans (decide_eq_true (by omega)),
        by simpa [hi] using hdata i hlt⟩
    obtain ⟨u, hu, hdisp, hqueue, hskipped, hev⟩ := exists_part_unexpectedReply hw hv htime hwf he hwfr hmiss
      ⟨hst, hskip, hd, hq, hroom⟩ (fun i hi => hsilent i (by omega) (by omega)) (fun i hi => hacc i (by omega)) hoffered
      (hsilent _ (by omega) (by omega)) (hsilent _ (by omega) (by omega))
    have hready : (inputsNow u).msgReady = true := by
      rw [inputsNow_of_runsTo hu.run]
      obtain ⟨-, -, -, -, hready⟩ := hquiet (1 + w + (v + 1) + 1) (by omega)
      exact hready
    obtain ⟨t, ht, hsel, hnoskip, hagain⟩ := exists_part_afterUnexpected (congrArg Params.tReply hu.cfg.symm) (by omega)
      (fun i hi => by
        rw [inputAt_of_runsTo hu.run]
        exact hsilent _ (by omega) (by omega)) hready hu.hunt hdisp hskipped
    have hall := hu.trans ht
    have hlen : 1 + w + (v + 1) + 1 + (1 + (1 + s.cfg.tReply + 1)) = n := by omega
    rw [List.append_nil, hlen] at hall
    have hsend : 1 + w + (v + 1) + 1 = w + v + 3 := by omega
    exact ⟨⟨u, hsend ▸ hu.run, hev⟩, t, hall.run, hsel, hnoskip, hall.hunt, hagain.trans hqueue, hall.trace⟩

end Sys2Proof.Proofs.LinkCycles
end

section
/-! PROOFS. The transmit queue's operations, each put to a state by itself (R220 to R228). -/

namespace Sys2Proof.Proofs.QueueOperations

open Sys2Proof Sys2Proof.Machine Sys2Proof.Proofs.Lanes Sys2Proof.Proofs.OperationMap

/-! ## The host's operations (R220 to R223) -/

/-- The host's operation in a cycle with a command transferred: the length, then `cmd_head`, decides. -/
theorem commandOp_of_commands {s : State} (h : Commands s) :
    commandOp s = some (
      if commandLengthOk (inputsNow s).cmdLen = true then
        if (inputsNow s).cmdHead = true then
          .qSendPriority (inputsNow s).cmdLen (inputsNow s).cmdPayload (inputsNow s).cmdExpect
        else .qSend (inputsNow s).cmdLen (inputsNow s).cmdPayload (inputsNow s).cmdExpect
      else .qCmdBad (inputsNow s).cmdHead (inputsNow s).cmdLen (inputsNow s).cmdPayload (inputsNow s).cmdExpect) := by
  obtain ⟨-, hvalid, hready⟩ := h
  have hkey : commandKeyOf s = commandKey (inputsNow s).cmdHead (inputsNow s).cmdLen (inputsNow s).cmdPayload
      (inputsNow s).cmdExpect := by
    simp only [commandKeyOf, commandKey, hvalid, (cmdReady_iff s).2 hready]
  rw [commandOp, hkey, selectCommand_commandKey]

/-- No operation is selected exactly where no command is transferred. -/
theorem commandOp_eq_none_iff (s : State) :
    commandOp s = none ↔ (inputsNow s).cmdValid = false ∨ cmdReady s = false := by
  rcases commandOp_cases s with ⟨hop, hno⟩ | ⟨⟨hvalid, hready⟩, ⟨hop, -⟩ | ⟨hop, -⟩ | ⟨hop, -⟩⟩
  · simp [hop, hno]
  all_goals simp [hop, hvalid, hready]

/-- The message of a command, its payload bytes read off the port (R40, R91). -/
theorem commandMsg_eq_ofNat (len : Byte) (v : Lanes) (e : TypeSet) :
    commandMsg len v e = ⟨len, (List.range len.toNat).map fun i => BitVec.ofNat 8 (v.toNat / 2 ^ (8 * i)), e⟩ := by
  simp only [ofNat_div_eq_lane]
  rfl

/-- Settles O34: the operation from the length and `cmd_head`, its effect from the message that the command carries. -/
theorem hostQueueOperations : Obligations.HostQueueOperations := by
  refine ⟨?_, ?_, ?_, ?_⟩
  · rintro s len v e hc rfl rfl rfl hhead hmin hmax
    rw [← commandMsg_eq_ofNat]
    exact ⟨by simp [commandOp_of_commands hc, commandLengthOk, hmin, hmax, hhead], rfl⟩
  · rintro s len v e hc rfl rfl rfl hhead hmin hmax
    rw [← commandMsg_eq_ofNat]
    exact ⟨by simp [commandOp_of_commands hc, commandLengthOk, hmin, hmax, hhead], rfl⟩
  · rintro s head len v e hc rfl rfl rfl rfl hbad
    have hlen : commandLengthOk (inputsNow s).cmdLen = false := by
      simp only [commandLengthOk, Bool.and_eq_false_iff, decide_eq_false_iff_not]
      omega
    exact ⟨by simp [commandOp_of_commands hc, hlen], rfl⟩
  · intro s _ hno
    rw [commandOp_eq_none_iff, ← Bool.not_eq_true (cmdReady s), cmdReady_iff]
    rcases hno with hno | hno | hno | hno
    · exact .inl hno
    · simp [hno]
    · simp [hno]
    · exact .inr fun ⟨_, _, hlimit⟩ => by omega

/-! ## The internal operations (R224 to R226) -/

theorem exec_qPop_of_cons {s : State} {m : TxMsg} {rest : List TxMsg} (hq : s.queue = m :: rest) :
    exec .qPop s = .next { s with queue := rest, ret := .popped (some m) } := by
  simp [exec, execQPop, hq, State.setQueue, State.setRet]

theorem exec_qPop_of_nil {s : State} (hq : s.queue = []) :
    exec .qPop s = .next { s with ret := .popped none } := by
  simp [exec, execQPop, hq, State.setQueue, State.setRet]

/-- Settles O35: a push looks at the room, and on a full queue it is the overflow. -/
theorem internalQueueOperations : Obligations.InternalQueueOperations := by
  refine ⟨fun _ _ _ => exec_qPop_of_cons, fun _ => exec_qPop_of_nil, ?_, ?_, fun s _ => ?_⟩
  · intro s m hroom
    exact congrArg Host.Outcome.next (pushHead_of_room hroom)
  · intro s m hfull
    exact congrArg Host.Outcome.next ((pushHead_of_full hfull).trans (pushOverflow_eq s).symm)
  · exact congrArg Host.Outcome.next (pushOverflow_eq s)

/-! ## Priority order (R228) -/

/-- A pop of a queue that holds a message, as a run of its own. -/
theorem runOps_qPop {s : State} {m : TxMsg} {rest : List TxMsg} (hq : s.queue = m :: rest) :
    runOps [.qPop] s = .next { s with queue := rest, ret := .popped (some m) } :=
  runOps_cons_next (exec_qPop_of_cons hq)

/-- Two insertions at the tail of an empty queue and one at the head leave the last one first. -/
theorem runOps_send_send_priority {s : State} (hq : s.queue = []) (la lb lc : Byte) (va vb vc : Lanes)
    (ea eb ec : TypeSet) :
    runOps [.qSend la va ea, .qSend lb vb eb, .qSendPriority lc vc ec] s =
      .next { s with queue := [commandMsg lc vc ec, commandMsg la va ea, commandMsg lb vb eb] } := by
  simp [runOps, exec, execQSend, execQSendPriority, hq, State.setQueue]

/-- Settles O36: the three pops take that queue apart from its head. -/
theorem priorityOrder : Obligations.PriorityOrder := by
  intro s la lb lc va vb vc ea eb ec hq
  have hqueued := runOps_send_send_priority hq la lb lc va vb vc ea eb ec
  exact ⟨_, _, _, (runOps_append hqueued).trans (runOps_qPop rfl), rfl, runOps_qPop rfl, rfl, runOps_qPop rfl, rfl, rfl⟩

end Sys2Proof.Proofs.QueueOperations
end

section
/-! PROOFS. The capacity of the transmit queue (R220, R227): the count invariant is kept by each part of a cycle, and
under it no internal push overflows. -/

namespace Sys2Proof.Proofs.Capacity

open Sys2Proof Sys2Proof.Machine Sys2Proof.Proofs.Scope Sys2Proof.Proofs.Agents Sys2Proof.Proofs.Events
  Sys2Proof.Proofs.QueueOrder Sys2Proof.Proofs.ArbiterEvents

/-! ## The invariant, phase by phase of a link cycle -/

/-- Of the registers the invariant reads the arbiter's alone, and beside them the queue. -/
theorem capacityInv_congr {s t : State} (hs : CapacityInv s) (h : SameArbiter s t) (hq : t.queue = s.queue) :
    CapacityInv t := by
  simpa only [CapacityInv, h.cfg, h.arbState, h.arbSkip, h.arbExpect, hq] using hs

/-- In DEAD and STOPPED only the bound itself is left to say. -/
theorem capacityInv_of_halted {s : State} (hst : s.arbState = .dead ∨ s.arbState = .stopped)
    (hdepth : 3 ≤ s.cfg.txqDepth) (hlen : s.queue.length ≤ s.cfg.txqDepth) : CapacityInv s := by
  rcases hst with hst | hst <;> simp [CapacityInv, hst, hdepth, hlen]

/-- Between two link cycles: a full queue has a message at its head that expects no reply, and a skip cycle, which does
not dequeue, finds an entry free for its ACK. -/
theorem capacityInv_of_between {s : State} (hst : s.arbState = .select ∨ s.arbState = .dispatch)
    (hdepth : 3 ≤ s.cfg.txqDepth) (hlen : s.queue.length ≤ s.cfg.txqDepth)
    (hfull : s.queue.length = s.cfg.txqDepth → ∀ m ∈ s.queue.head?, m.e = 0)
    (hskip : s.arbSkip = true → s.queue.length + 1 ≤ s.cfg.txqDepth) : CapacityInv s :=
  ⟨hdepth, hlen, fun hoff => by simp [hoff] at hst, fun _ => ⟨hfull, hskip⟩,
    fun hin => by rcases hst with hst | hst <;> simp [hst] at hin⟩

/-- Inside a link cycle: an entry is free for an ACK, and two where the message sent may have to be queued again. -/
theorem capacityInv_of_within {s : State} (hst : s.arbState = .tx ∨ s.arbState = .wait ∨ s.arbState = .classify)
    (hdepth : 3 ≤ s.cfg.txqDepth) (hskip : s.arbSkip = false) (hroom : s.queue.length + 1 ≤ s.cfg.txqDepth)
    (hresend : s.arbExpect ≠ 0 → s.queue.length + 2 ≤ s.cfg.txqDepth) : CapacityInv s :=
  ⟨hdepth, by omega, fun hoff => by simp [hoff] at hst,
    fun hout => by rcases hout with hout | hout <;> simp [hout] at hst, fun _ => ⟨hskip, hroom, hresend⟩⟩

/-- `route()` ends a link cycle, in SELECT or DISPATCH (R191). -/
theorem capacityInv_route {s : State} (hdepth : 3 ≤ s.cfg.txqDepth) (hlen : s.queue.length ≤ s.cfg.txqDepth)
    (hfull : s.queue.length = s.cfg.txqDepth → ∀ m ∈ s.queue.head?, m.e = 0)
    (hskip : s.arbSkip = true → s.queue.length + 1 ≤ s.cfg.txqDepth) : CapacityInv (route s) := by
  rw [route_eq]
  refine capacityInv_of_between ?_ hdepth hlen hfull hskip
  dsimp only
  split_ifs <;> simp

/-- CLASSIFY that queues nothing leaves the entry for an ACK unused. -/
theorem capacityInv_route_of_classify {s : State} (hs : CapacityInv s) (hst : s.arbState = .classify) :
    CapacityInv (route s) := by
  obtain ⟨hdepth, hlen, -, -, hwithin⟩ := hs
  obtain ⟨hskip, hroom, -⟩ := hwithin (.inr (.inr hst))
  exact capacityInv_route hdepth hlen (fun hfull => by omega) (by simp [hskip])

/-- An owed ACK takes the entry that is free for it, and as it expects no reply it may fill the queue (R187). -/
theorem capacityInv_route_pushAck {s : State} (hs : CapacityInv s) (hst : s.arbState = .classify) :
    CapacityInv (route (pushAck s)) := by
  obtain ⟨hdepth, -, -, -, hwithin⟩ := hs
  obtain ⟨hskip, hroom, -⟩ := hwithin (.inr (.inr hst))
  rw [pushAck_of_room hroom]
  exact capacityInv_route hdepth hroom (by simp [ackMsg]) (by simp [hskip])

/-- A message that is queued again leaves an entry free, so the skip flag may be set (R188, R189). -/
theorem capacityInv_route_resend {s t : State} {m : TxMsg} (hs : CapacityInv s) (hst : s.arbState = .classify)
    (hexp : s.arbExpect ≠ 0) (hcfg : t.cfg = (pushHead m s).cfg) (hq : t.queue = (pushHead m s).queue) :
    CapacityInv (route t) := by
  obtain ⟨hdepth, -, -, -, hwithin⟩ := hs
  obtain ⟨-, hroom, hresend⟩ := hwithin (.inr (.inr hst))
  have hfree : (m :: s.queue).length + 1 ≤ s.cfg.txqDepth := hresend hexp
  rw [pushHead_of_room hroom] at hcfg hq
  apply capacityInv_route
  · rwa [hcfg]
  · rw [hcfg, hq]
    exact Nat.le_of_succ_le hfree
  · rw [hcfg, hq]
    exact fun hfull => absurd hfull (Nat.ne_of_lt hfree)
  · rw [hcfg, hq]
    exact fun _ => hfree

/-! ## The host's part of a cycle -/

/-- The host's operation leaves the queue or, where the port was ready, adds one message (R220 to R223). -/
theorem runOps_commandOp_length {s u v : State} (h : runOps (commandOp s).toList u = .next v) :
    v.queue = u.queue ∨ (s.queue.length + 2 < s.cfg.txqDepth ∧ v.queue.length = u.queue.length + 1) := by
  rcases commandOp_cases s with ⟨hop, -⟩ | ⟨⟨-, hready⟩, hcases⟩
  · rw [hop] at h; cases h
    exact .inl rfl
  · obtain ⟨-, -, hlimit⟩ := (cmdReady_iff s).1 hready
    rcases hcases with ⟨hop, -⟩ | ⟨hop, -⟩ | ⟨hop, -⟩ <;> rw [hop] at h <;> cases h
    · exact .inl rfl
    · exact .inr ⟨hlimit, by simp⟩
    · exact .inr ⟨hlimit, by simp⟩

/-- Below the host's limit one more message keeps the invariant in every phase: two entries stay free. -/
theorem capacityInv_insert {s t : State} (hs : CapacityInv s) (h : SameArbiter s t)
    (hlen : t.queue.length + 2 ≤ t.cfg.txqDepth) : CapacityInv t := by
  obtain ⟨hdepth, -, hoff, -, hwithin⟩ := hs
  rw [← h.cfg] at hdepth
  rw [← h.arbState, ← h.arbSkip] at hoff hwithin
  exact ⟨hdepth, by omega, fun hst => ⟨hlen, (hoff hst).2⟩, fun _ => ⟨fun hfull => by omega, fun _ => by omega⟩,
    fun hst => ⟨(hwithin hst).1, by omega, fun _ => hlen⟩⟩

/-- The host's operation keeps the invariant, put to a queue that the dequeue of the same cycle may have shortened. -/
theorem capacityInv_commandOp {s u v : State} (hu : CapacityInv u) (hcfg : u.cfg = s.cfg)
    (hlen : u.queue.length ≤ s.queue.length) (h : runOps (commandOp s).toList u = .next v) : CapacityInv v := by
  have hsame : SameArbiter u v := (runOps_commandOp_sameAgents h).1
  rcases runOps_commandOp_length h with hq | ⟨hlimit, hq⟩
  · exact capacityInv_congr hu hsame hq
  · refine capacityInv_insert hu hsame ?_
    rw [hsame.cfg, hcfg]
    omega

/-! ## The arbiter's part of a cycle -/

/-- A dequeue from a full queue takes a message that expects no reply, so two entries are free wherever one is expected
(R180, R227). -/
theorem capacityInv_send {u v : State} (hu : CapacityInv u) (hst : u.arbState = .select) (hskip : u.arbSkip = false)
    (h : exec .arbSelectSend u = .next v) : CapacityInv v := by
  obtain ⟨m, rest, hq, rfl⟩ := exec_send_next h
  obtain ⟨hdepth, hlen, -, hbetween, -⟩ := hu
  obtain ⟨hfull, -⟩ := hbetween (.inl hst)
  rw [hq] at hlen hfull
  exact capacityInv_of_within (.inl rfl) hdepth hskip hlen fun hexp =>
    Nat.lt_of_le_of_ne hlen fun heq => hexp (hfull heq m rfl)

/-- Every operation the arbiter's table selects keeps the invariant, put to the state that the host's operation of the
same cycle leaves. -/
theorem capacityInv_arbiterOp {s u v : State} (hu : CapacityInv u) (hsame : SameArbiter s u)
    (hhost : u.queue.length ≤ s.queue.length + 1) (h : exec (arbiterOp s) u = .next v) : CapacityInv v := by
  obtain ⟨hdepth, hlen, hoff, hbetween, hwithin⟩ := id hu
  have hcases := arbiterOp_cases s
  simp only [← hsame.arbState, ← hsame.arbSkip, ← hsame.arbExpect] at hcases
  rcases hcases with ⟨hop, -⟩ | ⟨hop, -⟩ | ⟨-, ⟨hop, hst, -⟩ | ⟨hop, -⟩ | ⟨hop, hst, hskip⟩ | ⟨hop, hst, hskip, -⟩ |
      ⟨hop, -, hskip, hempty⟩ | ⟨hop, -⟩ | ⟨hop, hst, -⟩ | ⟨hop, -⟩ | ⟨hop, -⟩ | ⟨hop, hst, -⟩ | ⟨hop, hst, -⟩ |
      ⟨hop, -⟩ | ⟨hop, hst, -⟩ | ⟨hop, hst, -⟩ | ⟨hop, hst, hexp, -⟩ | ⟨hop, hst, hexp, -⟩ | ⟨hop, hst, -⟩ |
      ⟨hop, hst, -⟩ | ⟨hop, -⟩⟩
  · exact of_exec h hop rfl hu
  · exact of_exec h hop rfl (capacityInv_of_halted (.inr rfl) hdepth hlen)
  · obtain ⟨hfree, -⟩ := hoff hst
    have hroom : u.queue.length < u.cfg.txqDepth := by omega
    exact of_exec h hop rfl
      (capacityInv_of_between (.inl rfl) hdepth hlen (fun hfull => absurd hfull hroom.ne) fun _ => hroom)
  · exact of_exec h hop rfl hu
  · obtain ⟨-, hroom⟩ := hbetween (.inl hst)
    exact of_exec h hop rfl
      (capacityInv_of_within (.inr (.inl rfl)) hdepth rfl (hroom hskip) fun hexp => absurd rfl hexp)
  · exact capacityInv_send hu hst hskip (hop ▸ h)
  · have hroom : u.queue.length + 1 ≤ u.cfg.txqDepth := by omega
    exact of_exec h hop rfl (capacityInv_of_within (.inr (.inl rfl)) hdepth hskip hroom fun hexp => absurd rfl hexp)
  · exact of_exec h hop rfl (capacityInv_of_halted (.inl rfl) hdepth hlen)
  · obtain ⟨hskip, hroom, hresend⟩ := hwithin (.inl hst)
    exact of_exec h hop rfl (capacityInv_of_within (.inr (.inl rfl)) hdepth hskip hroom hresend)
  · exact of_exec h hop rfl hu
  · exact of_exec h hop rfl hu
  · obtain ⟨hskip, hroom, hresend⟩ := hwithin (.inr (.inl hst))
    exact of_exec h hop rfl (capacityInv_of_within (.inr (.inr rfl)) hdepth hskip hroom hresend)
  · obtain ⟨hskip, hroom, hresend⟩ := hwithin (.inr (.inl hst))
    exact of_exec h hop rfl (capacityInv_of_within (.inr (.inr rfl)) hdepth hskip hroom hresend)
  · exact of_exec h hop rfl hu
  · refine of_exec h hop rfl ?_
    split_ifs
    · exact capacityInv_route_pushAck hu hst
    · exact capacityInv_route_of_classify hu hst
  · exact of_exec h hop rfl (capacityInv_route_of_classify (s := u.raise .idleTimeout) hu hst)
  · exact of_exec h hop rfl (capacityInv_route_resend (m := u.cur) hu hst hexp rfl rfl)
  · exact of_exec h hop rfl (capacityInv_route_resend (m := u.cur) hu hst hexp rfl rfl)
  · exact of_exec h hop rfl (capacityInv_route_of_classify (s := u.raise .matched) hu hst)
  · obtain ⟨hfull, hskip⟩ := hbetween (.inr hst)
    exact of_exec h hop rfl (capacityInv_of_between (.inl rfl) hdepth hlen hfull hskip)
  · exact of_exec h hop rfl hu

/-! ## The step -/

/-- A cycle without reset keeps the invariant: the dequeue, the host's insertion, the internal push and the decoder's
operation one after the other (R66). -/
theorem capacityInv_step {s t : State} (hs : CapacityInv s) (hr : (inputsNow s).rst = false)
    (h : step s = .next t) : CapacityInv t := by
  have hbegin : CapacityInv (beginCycle s) := hs
  obtain ⟨u, v, hdec, hparts⟩ := step_next_parts hr h
  have hv : CapacityInv v := by
    rcases hparts with ⟨hsend, harb, hcmd⟩ | ⟨-, hcmd, harb⟩
    · have hu : CapacityInv u :=
        capacityInv_arbiterOp hbegin (beginCycle_sameAgents s).1 (Nat.le_succ _) (hsend ▸ harb)
      obtain ⟨m, rest, hq, rfl⟩ := exec_send_next harb
      have hlen : rest.length ≤ (beginCycle s).queue.length := by simp [hq]
      exact capacityInv_commandOp (s := s) hu rfl hlen hcmd
    · have hu : CapacityInv u := capacityInv_commandOp (s := s) hbegin rfl le_rfl hcmd
      have hlen : u.queue.length ≤ s.queue.length + 1 := by
        rcases runOps_commandOp_length hcmd with hq | ⟨-, hq⟩
        · exact hq ▸ Nat.le_succ _
        · exact hq.le
      exact capacityInv_arbiterOp hu ((beginCycle_sameAgents s).1.trans (runOps_commandOp_sameAgents hcmd).1) hlen harb
  exact capacityInv_congr hv (exec_decoder_sameArbiter (decoderOp_format s) hdec) (exec_decoderOp_queue hdec)

/-- EV_TXQ_OVF asks for a full queue in CLASSIFY, where the invariant keeps an entry free. -/
theorem step_no_overflow {s t : State} (hs : CapacityInv s) (hr : (inputsNow s).rst = false)
    (h : step s = .next t) : t.ev.getLsbD 13 = false := by
  obtain ⟨-, -, -, -, -, -, -, hovf⟩ := arbiterEventsExactly s t hr h
  obtain ⟨-, -, -, -, hwithin⟩ := hs
  by_contra hset
  obtain ⟨-, hst, hfull, -⟩ := hovf.1 (by simpa using hset)
  obtain ⟨-, hroom, -⟩ := hwithin (.inr (.inr hst))
  omega

/-- An empty queue in OFF meets the invariant, whatever the parameters and the coming inputs. -/
theorem capacityInv_reset (c : Params) (x : InputStream) (hdepth : 3 ≤ c.txqDepth) :
    CapacityInv { State.reset with cfg := c, stim := x } := by
  have hlimit : 2 ≤ c.txqDepth := by omega
  simp [CapacityInv, State.reset, hdepth, hlimit]

/-- Settles O57: the invariant through the parts of a cycle, the event through its exact condition (O47), and the flag
through the event (O45). -/
theorem stepKeepsCapacity : Obligations.StepKeepsCapacity := by
  intro s t hs h
  cases hr : (inputsNow s).rst with
  | true =>
    rw [step_of_reset hr] at h
    cases h
    exact ⟨capacityInv_reset s.cfg _ hs.1, BitVec.getLsbD_zero, fun _ => rfl⟩
  | false =>
    have hev : t.ev.getLsbD 13 = false := step_no_overflow hs hr h
    exact ⟨capacityInv_step hs hr h, hev, fun hclear => by rw [overflowFlagIsSticky s t hr h, hclear, hev]; rfl⟩

/-- Settles O58. -/
theorem capacityInvAtReset : Obligations.CapacityInvAtReset :=
  capacityInv_reset Params.default State.reset.stim (by decide)

end Sys2Proof.Proofs.Capacity
end

section
/-! PROOFS. The lifecycle control: start, stop, and the two states that only a reset leaves (R240 to R244, R263,
R265). -/

namespace Sys2Proof.Proofs.Control

open Sys2Proof Sys2Proof.Machine Sys2Proof.Proofs.Scope Sys2Proof.Proofs.Ranges Sys2Proof.Proofs.Unwritten
  Sys2Proof.Proofs.Runs Sys2Proof.Proofs.QueueOrder Sys2Proof.Proofs.RunParts Sys2Proof.Proofs.QueueOperations

/-! ## Which operation (R94) -/

section rows

variable {s : State}

theorem arbiterOp_eq_halted (hst : s.arbState = .dead ∨ s.arbState = .stopped) : arbiterOp s = .ctlHalted := by
  rcases hst with hst | hst <;> simpa [hst] using arbiterOp_cases s

theorem arbiterOp_eq_stop (hdead : s.arbState ≠ .dead) (hstopped : s.arbState ≠ .stopped)
    (hstop : (inputsNow s).ctrlStop = true) : arbiterOp s = .ctlStop := by
  simpa [hdead, hstopped, hstop] using arbiterOp_cases s

theorem arbiterOp_eq_start (hstop : (inputsNow s).ctrlStop = false) (hst : s.arbState = .off)
    (hstart : (inputsNow s).ctrlStart = true) : arbiterOp s = .ctlStart := by
  simpa [hstop, hst, hstart] using arbiterOp_cases s

theorem arbiterOp_eq_ctlIdle (hstop : (inputsNow s).ctrlStop = false) (hst : s.arbState = .off)
    (hstart : (inputsNow s).ctrlStart = false) : arbiterOp s = .ctlIdle := by
  simpa [hstop, hst, hstart] using arbiterOp_cases s

theorem not_running_of_halted (hst : s.arbState = .dead ∨ s.arbState = .stopped) : s.arbState.running = false := by
  rcases hst with hst | hst <;> rw [hst] <;> rfl

end rows

/-- Settles O26: each row of the control's part of the arbiter's table, with its one write. -/
theorem controlOperations : Obligations.ControlOperations := by
  refine ⟨?_, ?_, ?_, ?_⟩
  · rintro s ⟨-, hstop⟩ hst hstart
    exact ⟨arbiterOp_eq_start hstop hst hstart, rfl⟩
  · intro s _ hdead hstopped hstop
    exact ⟨arbiterOp_eq_stop hdead hstopped hstop, rfl, decoderOp_eq_disabled (.inr (.inl hstop))⟩
  · intro s _ hst
    exact ⟨arbiterOp_eq_halted hst, rfl⟩
  · rintro s ⟨-, hstop⟩ hst hstart
    exact ⟨arbiterOp_eq_ctlIdle hstop hst hstart, rfl⟩

/-! ## The cycle of a stop (R241, R265) -/

section command

variable {s u v : State} {m : TxMsg}

/-- Without a transfer on the command port the host's part of the cycle does nothing. -/
theorem runOps_commandOp_of_no_transfer (hr : (inputsNow s).rst = false) (hc : cmdTransfer s = none)
    (h : runOps (commandOp s).toList u = .next v) : v = u := by
  have hno : (inputsNow s).cmdValid = false ∨ cmdReady s = false := by
    simpa [cmdTransfer, hr, ← Bool.not_eq_true, imp_iff_not_or] using hc
  rw [(commandOp_eq_none_iff s).2 hno] at h
  cases h
  rfl

theorem commands_of_cmdTransfer (hr : (inputsNow s).rst = false) (hc : cmdTransfer s = some m) : Commands s := by
  obtain ⟨⟨hvalid, hready⟩, -⟩ := cmdTransfer_eq_some hc
  exact ⟨hr, hvalid, (cmdReady_iff s).1 hready⟩

/-- A transferred command of an illegal length is discarded with EV_CMD_ERR (R223). -/
theorem runOps_commandOp_of_illegal (hr : (inputsNow s).rst = false) (hc : cmdTransfer s = some m)
    (hwf : m.wf = false) (h : runOps (commandOp s).toList u = .next v) : v = u.raise .cmdErr := by
  obtain ⟨-, rfl⟩ := cmdTransfer_eq_some hc
  rw [commandMsg_wf] at hwf
  rw [commandOp_of_commands (commands_of_cmdTransfer hr hc), hwf] at h
  cases h
  rfl

/-- A transferred command of a legal length enters the queue, and nothing else changes (R221, R222). -/
theorem runOps_commandOp_of_legal (hr : (inputsNow s).rst = false) (hc : cmdTransfer s = some m)
    (hwf : m.wf = true) (h : runOps (commandOp s).toList u = .next v) :
    v = u.setQueue (entered (inputsNow s).cmdHead m u.queue) := by
  obtain ⟨-, rfl⟩ := cmdTransfer_eq_some hc
  rw [commandMsg_wf] at hwf
  rw [commandOp_of_commands (commands_of_cmdTransfer hr hc), hwf] at h
  cases hhead : (inputsNow s).cmdHead <;> rw [hhead] at h <;> cases h <;> rfl

end command

/-- The cycle of a stop is the host's operation, if there is one, then CTL.STOP and DEC.DISABLED. -/
theorem exists_step_stop {s : State} (hr : (inputsNow s).rst = false) (hdead : s.arbState ≠ .dead)
    (hstopped : s.arbState ≠ .stopped) (hstop : (inputsNow s).ctrlStop = true) :
    ∃ u, runOps (commandOp s).toList (beginCycle s) = .next u ∧ step s = .next (toHunt (u.setArbState .stopped)) := by
  obtain ⟨t, hstep⟩ := exists_step_next s
  obtain ⟨u, v, hdec, ⟨hsend, -⟩ | ⟨-, hcmd, harb⟩⟩ := step_next_parts hr hstep
  · simp [arbiterOp_eq_stop hdead hstopped hstop] at hsend
  · rw [arbiterOp_eq_stop hdead hstopped hstop] at harb
    cases harb
    rw [decoderOp_eq_disabled (.inr (.inl hstop))] at hdec
    cases hdec
    exact ⟨u, hcmd, hstep⟩

/-- Settles O27: CTL.STOP and DEC.DISABLED write the three registers, the host's operation the queue and the events. -/
theorem stopCycle : Obligations.StopCycle := by
  intro s hr hdead hstopped hstop
  obtain ⟨u, hcmd, hstep⟩ := exists_step_stop hr hdead hstopped hstop
  refine ⟨u.queue, u.ev, ?_, fun hc => ?_, fun m hc hwf => ?_, fun m hc hwf => ?_⟩
  · rw [hstep, runOps_commandOp_frame hcmd]
    rfl
  · rw [runOps_commandOp_of_no_transfer hr hc hcmd]
    exact ⟨rfl, rfl⟩
  · rw [runOps_commandOp_of_illegal hr hc hwf hcmd]
    exact ⟨rfl, BitVec.zero_or⟩
  · rw [runOps_commandOp_of_legal hr hc hwf hcmd]
    exact ⟨rfl, rfl⟩

/-! ## The absorbing states (R242, R244, R263) -/

theorem cmdReady_of_halted {s : State} (hst : s.arbState = .dead ∨ s.arbState = .stopped) : cmdReady s = false := by
  rw [← Bool.not_eq_true, cmdReady_iff]
  exact fun ⟨hdead, hstopped, _⟩ => hst.elim hdead hstopped

/-- In DEAD or STOPPED every port is closed: the link neither runs nor takes commands. -/
theorem nothingTransferred_of_halted {s : State} (hst : s.arbState = .dead ∨ s.arbState = .stopped) :
    NothingTransferred s := by
  have hrx : rxReady s = false := by simp [rxReady, rxReadyOf, not_running_of_halted hst]
  have hcmd : cmdReady s = false := cmdReady_of_halted hst
  have hmsg : msgValid s = false := by rcases hst with hst | hst <;> simp [msgValid, hst]
  have htx : s.arbState ≠ .tx := by rcases hst with hst | hst <;> simp [hst]
  exact ⟨by simp [rxTransfer, hrx], txTransfer_of_not_tx htx, by simp [cmdTransfer, hcmd],
    by simp [msgTransfer, hmsg]⟩

/-- A cycle of a halted link with its decoder at rest clears `ev` and uses up its inputs: CTL.HALTED writes nothing, and
DEC.DISABLED writes what the decoder holds. -/
theorem step_of_halted {s : State} (hr : (inputsNow s).rst = false)
    (hst : s.arbState = .dead ∨ s.arbState = .stopped) (hhunt : s.decState = .hunt) (hesc : s.decEsc = false) :
    step s = .next (beginCycle s) := by
  have hcmd : commandOp s = none := (commandOp_eq_none_iff s).2 (.inr (cmdReady_of_halted hst))
  have hdec : decoderOp s = .decDisabled := decoderOp_eq_disabled (.inl (not_running_of_halted hst))
  have hrest : toHunt (beginCycle s) = beginCycle s := by simp [toHunt_eq, beginCycle, hhunt, hesc]
  calc step s = runOps [.ctlHalted, .decDisabled] (beginCycle s) := by
        simp [step_of_no_reset hr, cycleOps, hcmd, arbiterOp_eq_halted hst, hdec]
    _ = .next (toHunt (beginCycle s)) := rfl
    _ = .next (beginCycle s) := by rw [hrest]

theorem runsTo_of_halted {n : Nat} {s : State} (hst : s.arbState = .dead ∨ s.arbState = .stopped)
    (hhunt : s.decState = .hunt) (hesc : s.decEsc = false) (hin : ∀ i, i < n + 1 → (inputAt s i).rst = false) :
    RunsTo (n + 1) s { s with ev := 0, stim := s.stim.drop (n + 1) } := by
  induction n generalizing s with
  | zero => exact runsTo_one (step_of_halted (hin 0 Nat.one_pos) hst hhunt hesc)
  | succ n ih =>
    have hstep : step s = .next (beginCycle s) := step_of_halted (hin 0 (Nat.succ_pos _)) hst hhunt hesc
    exact runsTo_succ_of_step hstep
      (ih (s := beginCycle s) hst hhunt hesc fun i hi => hin (i + 1) (Nat.succ_lt_succ hi))

/-- Settles O28: each cycle is that of `step_of_halted`, so every state of the run is halted like the first. -/
theorem haltedIsAbsorbing : Obligations.HaltedIsAbsorbing := by
  intro n s hst hhunt hesc hin
  refine ⟨runsTo_of_halted hst hhunt hesc hin, fun i t hi hrun => nothingTransferred_of_halted ?_⟩
  cases i with
  | zero =>
    cases hrun
    exact hst
  | succ i =>
    cases runsTo_unique hrun (runsTo_of_halted hst hhunt hesc fun j hj => hin j (hj.trans_le hi))
    exact hst

end Sys2Proof.Proofs.Control
end

section
/-! PROOFS. A cycle of reset (R290), and a run that has ended by its second kind (R299): the idle link cycles that are
left, and the inputs of a stimulus that is over. -/

namespace Sys2Proof.Proofs.EndOfRun

open Sys2Proof Sys2Proof.Machine Sys2Proof.Proofs.Scope Sys2Proof.Proofs.Ranges Sys2Proof.Proofs.Unwritten
  Sys2Proof.Proofs.Runs Sys2Proof.Proofs.Reception Sys2Proof.Proofs.OfferTimeout Sys2Proof.Proofs.ArbiterOperations
  Sys2Proof.Proofs.WaitTimeout Sys2Proof.Proofs.RunParts Sys2Proof.Proofs.LinkCycles Sys2Proof.Proofs.Control

/-- Settles O39: no operation runs in the cycle, and what it leaves is `resetCore`. -/
theorem resetCycle : Obligations.ResetCycle := fun _ hr => step_of_reset hr

/-! ## The idle link cycle -/

theorem silent_of_undriven {x : Inputs} (h : x.undriven = true) : Silent x := by
  obtain ⟨hr, hv, -, -, -, hc, -, -, hstop⟩ := (undriven_iff x).1 h
  exact ⟨hr, hstop, hc, hv⟩

theorem ctrlStart_of_undriven {x : Inputs} (h : x.undriven = true) : x.ctrlStart = false := by
  obtain ⟨-, -, -, -, -, -, -, hstart, -⟩ := (undriven_iff x).1 h
  exact hstart

/-- `quiescent`, with SELECT and with a CLASSIFY that has received nothing: what the cycles after the end of a run keep.
A WAIT may begin with a message of before in `rx_present`; its timeout clears it. -/
structure Idling (s : State) : Prop where
  queue : s.queue = []
  decState : s.decState = .hunt
  arbSkip : s.arbSkip = false
  arbExpect : s.arbExpect = 0
  arbiter : s.arbState = .off ∨ s.arbState = .wait ∨ (s.arbState = .classify ∧ s.rxPresent = false) ∨
    s.arbState = .select

theorem idling_of_quiescent {s : State} (h : quiescent s = true) : Idling s := by
  obtain ⟨hst, hdec, hq, hskip, hexp⟩ := (quiescent_iff s).1 h
  exact ⟨hq, hdec, hskip, hexp, hst.elim (fun hoff => .inr (.inl hoff)) .inl⟩

/-- What an idle cycle may raise: nothing, or EV_IDLE_TIMEOUT alone. -/
def IdleEvents (s : State) : Prop := s.ev = 0 ∨ s.ev = 0x0040

section cycle

variable {s t : State}

/-- No port carries anything: nothing is offered to the link, and the link offers nothing outside TX and DISPATCH. -/
theorem Idling.nothingTransferred (hs : Idling s) (hin : Silent (inputsNow s)) : NothingTransferred s := by
  obtain ⟨hr, -, hc, hv⟩ := hin
  obtain ⟨htx, hdispatch⟩ : s.arbState ≠ .tx ∧ s.arbState ≠ .dispatch := by
    rcases hs.arbiter with hst | hst | ⟨hst, -⟩ | hst <;> simp [hst]
  exact ⟨by simp [rxTransfer, hv], txTransfer_of_not_tx htx, by simp [cmdTransfer, hc],
    by simp [msgTransfer, msgValid, hdispatch]⟩

/-- An undriven cycle of OFF is CTL.IDLE and DEC.DISABLED (R243, R110). -/
theorem step_of_off (hin : (inputsNow s).undriven = true) (hst : s.arbState = .off) :
    step s = .next (toHunt (beginCycle s)) := by
  obtain ⟨hr, hstop, hc, -⟩ := silent_of_undriven hin
  rw [step_of_no_command hr hc, arbiterOp_eq_ctlIdle hstop hst (ctrlStart_of_undriven hin),
    decoderOp_eq_disabled (.inl (by rw [hst]; rfl))]
  rfl

/-- Outside OFF an idle cycle is the arbiter's operation alone. -/
theorem Idling.step_eq {i : Instr} {u : State} (hs : Idling s) (hin : Silent (inputsNow s)) (hon : s.arbState ≠ .off)
    (hop : arbiterOp s = i) (hexec : exec i (beginCycle s) = .next u) (h : step s = .next t) : t = u := by
  obtain ⟨hrun, htx⟩ : s.arbState.running = true ∧ s.arbState ≠ .tx := by
    rcases hs.arbiter.resolve_left hon with hst | ⟨hst, -⟩ | hst <;> simp [hst, ArbState.running]
  exact Host.Outcome.next.inj (h.symm.trans (step_of_silent hin hs.decState hrun htx hop hexec))

/-- One idle cycle: OFF stays, and WAIT, CLASSIFY and SELECT follow one another. -/
theorem Idling.of_step (hs : Idling s) (hin : (inputsNow s).undriven = true) (h : step s = .next t) :
    Idling t ∧ (t.arbState = .off ↔ s.arbState = .off) ∧ IdleEvents t := by
  have hsilent := silent_of_undriven hin
  have hstop := hsilent.ctrlStop
  have ⟨hq, hdec, hskip, hexp, harb⟩ := hs
  rcases harb with hst | hst | ⟨hst, hrx⟩ | hst
  · cases h.symm.trans (step_of_off hin hst)
    exact ⟨⟨hq, rfl, hskip, hexp, .inl hst⟩, .rfl, .inl rfl⟩
  · have hoffer : s.decState ≠ .offer := by simp [hdec]
    by_cases htimer : s.arbTimer + 1 = s.cfg.tReply
    · have hop := arbiterOp_eq_waitTimeout hstop hst hoffer htimer
      cases hs.step_eq hsilent (by simp [hst]) hop rfl h
      exact ⟨⟨hq, hdec, hskip, hexp, .inr (.inr (.inl ⟨rfl, rfl⟩))⟩, by simp [hst], .inl rfl⟩
    · have hop := arbiterOp_eq_waitTick hstop hst hoffer htimer
      cases hs.step_eq hsilent (by simp [hst]) hop rfl h
      exact ⟨⟨hq, hdec, hskip, hexp, .inr (.inl hst)⟩, .rfl, .inl rfl⟩
  · have hop := arbiterOp_eq_clsIdle hstop hst hexp hrx
    cases hs.step_eq hsilent (by simp [hst]) hop (exec_clsIdle (s := beginCycle s) hrx) h
    exact ⟨⟨hq, hdec, hskip, hexp, .inr (.inr (.inr rfl))⟩, by simp [hst], .inr BitVec.zero_or⟩
  · have hop := arbiterOp_eq_selectEmpty hstop hst hskip hq
    cases hs.step_eq hsilent (by simp [hst]) hop rfl h
    exact ⟨⟨hq, hdec, hskip, rfl, .inr (.inl rfl)⟩, by simp [hst, enterWait_eq], .inl rfl⟩

end cycle

/-! ## The cycles after the end -/

/-- Undriven cycles keep the link idling, in OFF or out of it; from the first on their events are idle ones. -/
theorem exists_runsTo_idling {n : Nat} {s : State} (hs : Idling s)
    (hin : During (·.undriven = true) n s) :
    ∃ t, RunsTo n s t ∧ Idling t ∧ (t.arbState = .off ↔ s.arbState = .off) ∧ (1 ≤ n → IdleEvents t) := by
  cases n with
  | zero => exact ⟨s, runsTo_zero s, hs, .rfl, fun h => absurd h (by decide)⟩
  | succ n =>
    obtain ⟨u, hu⟩ := exists_step_next s
    obtain ⟨t, hrun, ht, hoff, hev⟩ := exists_runsTo_of_invariant (C := (·.undriven = true))
      (P := fun v => Idling v ∧ (v.arbState = .off ↔ s.arbState = .off) ∧ IdleEvents v)
      (fun _ _ ⟨hv, hoff, _⟩ hx hstep =>
        have ⟨hw, hsame, hev⟩ := hv.of_step hx hstep
        ⟨hw, hsame.trans hoff, hev⟩)
      (hs.of_step (hin 0 n.succ_pos) hu)
      (fun i hi => by
        rw [inputAt_of_step hu]
        exact hin (i + 1) (Nat.succ_lt_succ hi))
    exact ⟨t, runsTo_succ_of_step hu hrun, ht, hoff, fun _ => hev⟩

/-! ## A stimulus that is spent -/

/-- Neither `first` nor `loop` drives a cycle. -/
def Spent (x : InputStream) : Prop :=
  (∀ i ∈ x.first, i.undriven = true) ∧ ∀ i ∈ x.loop, i.undriven = true

theorem stimulusSpent_iff (s : State) : stimulusSpent s = true ↔ Spent s.stim := by
  simp [stimulusSpent, Spent]

theorem Spent.now {x : InputStream} (h : Spent x) : x.now.undriven = true := by
  obtain ⟨first, loop⟩ := x
  obtain ⟨hfirst, hloop⟩ := h
  match first, loop with
  | i :: _, _ => exact hfirst i List.mem_cons_self
  | [], i :: _ => exact hloop i List.mem_cons_self
  | [], [] => exact quiet_undriven

theorem Spent.next {x : InputStream} (h : Spent x) : Spent x.next := by
  obtain ⟨first, loop⟩ := x
  obtain ⟨hfirst, hloop⟩ := h
  cases first with
  | cons i rest => exact ⟨fun j hj => hfirst j (List.mem_cons_of_mem i hj), hloop⟩
  | nil => exact ⟨fun j hj => hloop j (List.mem_of_mem_tail hj), hloop⟩

theorem Spent.drop {x : InputStream} (h : Spent x) (n : Nat) : Spent (x.drop n) := by
  induction n generalizing x with
  | zero => exact h
  | succ n ih => exact ih h.next

/-! ## A test program's driver after its last line -/

theorem drives_eq_false {d : Driver} (h : ∀ l ∈ d.lines, l.cycle < d.now) (a : Action) : d.drives a = false :=
  List.any_eq_false.2 fun l hl => by simp [(h l hl).ne]

theorem holds_eq_false {d : Driver} {span : Action → Nat} (h : ∀ l ∈ d.lines, l.cycle + span l.act ≤ d.now) :
    d.holds span = false :=
  List.any_eq_false.2 fun l hl => by simp [h l hl]

theorem driver_undriven {d : Driver} (hlast : d.afterLast = true) (hoffer : d.offering = false) :
    d.inputs.undriven = true := by
  obtain ⟨hrx, hcmd⟩ := (offering_eq_false_iff d).1 hoffer
  have hlines := (afterLast_iff d).1 hlast
  have hdrives := drives_eq_false fun l hl => (hlines l hl).1
  have htx : d.holds Action.txSpan = false := holds_eq_false fun l hl => (hlines l hl).2.1
  have hmsg : d.holds Action.msgSpan = false := holds_eq_false fun l hl => (hlines l hl).2.2
  simp [undriven_iff, Driver.inputs, Driver.rxOffer, Driver.cmdOffer, hrx, hcmd, hdrives, htx, hmsg]

/-- Settles O54: the run keeps `Idling`; its last state meets one more undriven cycle, in which no port carries
anything. -/
theorem endedRunOnlyIdles : Obligations.EndedRunOnlyIdles := by
  refine ⟨fun n s hs hin => ?_, fun s i hspent => (((stimulusSpent_iff s).1 hspent).drop i).now,
    fun _ => driver_undriven⟩
  obtain ⟨t, hrun, ht, hoff, hev⟩ := exists_runsTo_idling (idling_of_quiescent hs) (During.take (n := 1) hin)
  have hnow : Silent (inputsNow t) := by
    rw [inputsNow_of_runsTo hrun]
    exact silent_of_undriven (hin n n.lt_succ_self)
  refine ⟨t, hrun, ht.nothingTransferred hnow, ht.queue, ht.decState, ht.arbSkip, ht.arbExpect, hoff.2,
    fun hwait => ?_, hev⟩
  have hnot : t.arbState ≠ .off := fun h => by simp [hoff.1 h] at hwait
  exact (ht.arbiter.resolve_left hnot).imp_right (.imp_left And.left)

end Sys2Proof.Proofs.EndOfRun
end
